-- ==== Sys2Proof/Word.lean ====
section
/-! DEFINITION. The words the SE-48 exchanges with its surroundings (10, R183; 02, R28). -/

namespace Sys2Proof

/-- One byte of host memory. -/
abbrev Byte := BitVec 8

/-- A 32-bit word: a register of the register window, a frame of a sample, a report field. -/
abbrev Word := BitVec 32

/-- A 64-bit word: ROOT. -/
abbrev Wide := BitVec 64

/-- A level or an offset in points (01, R1). OFF and −1024 are one stored value. -/
abbrev Level := Int

/-- OFF, which every computation takes as −1024 (01, R1). -/
abbrev off : Level := -1024

end Sys2Proof
end

