-- ==== Sys2Proof/Config.lean ====
section
/-! DEFINITION. What an implementation fixes: the capacities of 00_scope.md "Capacities", and the one
free value the manual leaves (log 20). -/

namespace Sys2Proof.Config

/-- Sample periods in a control period (00_scope.md). -/
def period : Nat := 64
/-- Fade table entries (01, R13). -/
def fadeCapacity : Nat := 1024
/-- Contributions in one list (02, R32). -/
def listCapacity : Nat := 64
/-- Running cues (04, R89). -/
def runCapacity : Nat := 8
/-- Timed action queue (04, R89). -/
def queueCapacity : Nat := 128
/-- Pages in the page table (06, R128). -/
def pageCapacity : Nat := 16
/-- Recalls in progress (05, R103). -/
def recallCapacity : Nat := 16
/-- Routes in the function routing table (08, R161). -/
def routeCapacity : Nat := 20
/-- Memory reads outstanding (10, R187). -/
def readCapacity : Nat := 8
/-- Commands in flight (11, R192). -/
def inflightCapacity : Nat := 8
/-- Reports in the queue (11, R196). -/
def reportCapacity : Nat := 64
/-- Blocks of a voice buffer, and frames of a block (03, R53). -/
def blockCapacity : Nat := 8
def blockFrames : Nat := 256
/-- START_VOICE actions of one cue (04, R80). -/
def cueVoiceCapacity : Nat := 8
/-- The longest duration a field may ask for, in ms (01, R3). -/
def longestDuration : Nat := 3600000

/-- FREE VALUE (log 20). When the end of the freeze condition owes both an EXPIRED follow and a fire
slot in WAITING, 04, R97 leaves their order open: true takes the fire slot first. The argument is the
value of `State.choices` when the choice is met. -/
opaque fireFirst : Nat → Bool

end Sys2Proof.Config
end

