-- ==== Sys2Proof/Syntax.lean ====
section
/-! DEFINITION. The commands and events of the SE-48: one constructor of `Instr` for each row of
spec/opcode_table.json, with the operands its rule names. Enumerated fields stand as the codes a
record carries, so that an unknown code is an operand like any other. -/

namespace Sys2Proof

/-- A link: a window number and a 56-bit offset; window 255 is END (10, R183). -/
structure Link where
  win : Nat
  off : Nat
  deriving DecidableEq, Repr

/-- A sample descriptor as a record gives it (03, R51; 06, R126). -/
structure DescField where
  win : Nat
  off : Nat
  frames : Nat
  loopStart : Nat
  loopEnd : Nat
  mode : Nat
  count : Nat
  deriving DecidableEq, Repr

/-- A target as a record names it: kind code, first id, second id (04, R78). -/
structure TargetField where
  kind : Nat
  id1 : Nat
  id2 : Nat
  deriving DecidableEq, Repr

/-- The fields of a page record (06, R126). -/
structure PageField where
  id : Nat
  priority : Nat
  mode : Nat
  zones : BitVec 32
  groups : BitVec 8
  source : Nat
  mic : Nat
  chime : Nat
  waitLimit : Nat
  liveLimit : Nat
  recording : DescField
  chimeDesc : DescField
  deriving DecidableEq, Repr

/-- The five fields of SET_PAGE_BUTTON (06, R144). -/
structure ButtonField where
  zones : BitVec 32
  groups : BitVec 8
  priority : Nat
  mode : Nat
  mic : Nat
  deriving DecidableEq, Repr

/-- The fields of SET_FOLDBACK, `none` for LEAVE (05, R121). -/
structure FoldbackField where
  hold : Option Nat
  ceiling : Option Int
  attack : Option Nat
  release : Option Nat
  dim : Option Int
  member : Option Nat
  talkLevel : Option Int
  deriving DecidableEq, Repr

/-- The fields of SET_ZONE, `none` for LEAVE (06, R146). -/
structure ZoneField where
  programme : Option Nat
  depth : Option Int
  attack : Option Nat
  release : Option Nat
  groups : Option (BitVec 8)
  pageLevel : Option Int
  deriving DecidableEq, Repr

/-- What a read returns: its bytes, or a bus error (10, R185, R187). -/
inductive ReadData
  | data (bytes : List Byte)
  | busError
  deriving DecidableEq, Repr

/-- What the pins carry during one sample period: the contacts C1–C24 with CLOSED as 1 (08, R159) and
the 64 input slots (02, R28). -/
structure Pins where
  contacts : BitVec 24
  slots : List (BitVec 24)
  deriving DecidableEq, Repr

/-- A target of the fade table (01, R13). Buses are numbered 0–24, zones 1–32, mixes 1–16. -/
inductive Target
  | channel (source : Nat)
  | crosspoint (bus source : Nat)
  | master (bus : Nat)
  | zoneLevel (zone : Nat)
  | duck (zone : Nat)
  | busInterlock (bus : Nat)
  | zoneInterlock (zone : Nat)
  | dim (mix : Nat)
  deriving DecidableEq, Repr

/-- The rows of spec/opcode_table.json, in its order. `r` is the link of the command record that a
chain command came in; its outcome is written there. -/
inductive Instr
  -- registers and part states
  | powerOn
  | registerWrite (offset : Nat) (wide : Bool) (value : Wide)
  | runWritten1
  | runWritten0
  | softReset
  | wake
  | causeClear (bits : Word)
  | maskWrite (value : Word)
  | rootBlockReadComplete (d : ReadData)
  | windowTableReadComplete (d : ReadData) (pins : Pins)
  | stoppingEnd
  | orphanReadReturn (d : ReadData)
  | readSlotGrant
  -- time
  | samplePeriod (pins : Pins) (osc : Nat)
  | controlPeriod
  | fadeComplete (t : Target)
  | actionDue
  | followExpired
  | voiceStart (voice : Nat)
  | tailEnd (voice : Nat)
  | cutRampEnd (voice : Nat)
  | pauseRampEnd (voice : Nat)
  | pathEnd (voice : Nat)
  | waitExpiry (page : Nat)
  | lengthExpiry (page : Nat)
  | flashWindowEnd
  | inputChange (input watcherAt : Nat) (first : List Nat)
  | measurementWindowEnd
  | lossEvent
  | changeoverBoundary
  | pollTimerExpiry
  | statusPageWrite
  -- reads that return
  | fetchComplete (voice : Nat) (d : ReadData)
  | armingReadComplete (fire : Bool) (d : ReadData)
  | sceneReadComplete (number : Nat) (d : ReadData)
  | chainLinkReadComplete (d : ReadData)
  | chainRecordReadComplete (d : ReadData)
  | reportLinkReadComplete (d : ReadData)
  | loadWindowsReadComplete (d : ReadData)
  -- chain commands
  | setLevel (r : Link) (target : TargetField) (mode : Nat) (level : Int)
  | fade (r : Link) (target : TargetField) (mode : Nat) (level : Int) (dur law : Nat)
  | stopFade (r : Link) (target : TargetField)
  | setSource (r : Link) (source mute : Nat)
  | setBus (r : Link) (bus : Nat) (mute : Option Nat) (clear : Nat)
  | setContrib (r : Link) (bus source : Nat) (level : Int) (tap dur law : Nat)
  | removeContrib (r : Link) (bus source dur law : Nat)
  | startVoice (r : Link) (voice : Nat) (desc : DescField) (delay : Nat)
  | stopVoice (r : Link) (voice mode frames : Nat)
  | teardownVoice (r : Link) (voice : Nat)
  | setReserve (r : Link) (voices : BitVec 64)
  | setSchedule (r : Link) (count : Nat) (voices : List Nat)
  | loadBook (r : Link) (book : Link) (index : Nat)
  | goto (r : Link) (index : Nat)
  | go (r : Link)
  | hold (r : Link)
  | release (r : Link)
  | fire (r : Link) (index : Nat)
  | stopCues (r : Link)
  | setFoldback (r : Link) (mix : Nat) (f : FoldbackField)
  | recallScene (r : Link) (scene : Link) (dur law : Nat)
  | talk (r : Link) (value : Nat)
  | setZone (r : Link) (zone : Nat) (f : ZoneField)
  | setPageButton (r : Link) (button unset : Nat) (f : ButtonField)
  | startPage (r : Link) (page : PageField)
  | endPage (r : Link) (page : Nat)
  | cancelPage (r : Link) (page : Nat)
  | resume (r : Link) (time : Option Nat)
  | setRoute (r : Link) (function input polarity : Nat)
  | setInput (r : Link) (input : Nat) (debounce rise fall : Option Nat)
  | setPattern (r : Link) (mode : Nat) (mask compare : BitVec 16) (action line : Nat)
  | setOutput (r : Link) (output source group : Nat)
  | setClockLimits (r : Link) (warn change hyst : Option Nat)
  | selectClock (r : Link) (value : Nat)
  | relock (r : Link)
  | loadWindows (r : Link) (addr : Wide) (count : Nat)
  | setPoll (r : Link) (interval : Nat)
  | clearFlags (r : Link) (flags : BitVec 8)
  | mark (r : Link) (value : Word)
  -- events from outside
  | wordClockEdge
  | writeBusError
  deriving DecidableEq, Repr

end Sys2Proof
end

