-- ==== Sys2Proof/WellFormed.lean ====
section
/-! DEFINITION. Well-formed commands: each operand fits the field or the wire it comes from (11, R189;
10, R183; 02, R28). A command that is not well-formed is one no record, bus or pin can carry. -/

namespace Sys2Proof

/-- An unsigned field of n bytes. -/
def fits (n v : Nat) : Bool := v < 256 ^ n

/-- A signed 16-bit level or delta (01, R1, R6). -/
def fitsLevel (v : Int) : Bool := -32768 ≤ v && v ≤ 32767

/-- An optional field, absent for LEAVE. -/
def fitsOpt (n : Nat) : Option Nat → Bool
  | none => true
  | some v => fits n v

def fitsLevelOpt : Option Int → Bool
  | none => true
  | some v => fitsLevel v

def Link.wf (l : Link) : Bool := fits 1 l.win && fits 7 l.off

def DescField.wf (d : DescField) : Bool :=
  fits 1 d.win && fits 7 d.off && fits 4 d.frames && fits 4 d.loopStart && fits 4 d.loopEnd &&
    fits 1 d.mode && fits 2 d.count

def TargetField.wf (t : TargetField) : Bool := fits 1 t.kind && fits 1 t.id1 && fits 1 t.id2

def PageField.wf (p : PageField) : Bool :=
  fits 2 p.id && fits 1 p.priority && fits 1 p.mode && fits 1 p.source && fits 1 p.mic &&
    fits 1 p.chime && fits 4 p.waitLimit && fits 2 p.liveLimit && p.recording.wf && p.chimeDesc.wf

def ButtonField.wf (b : ButtonField) : Bool := fits 1 b.priority && fits 1 b.mode && fits 1 b.mic

def FoldbackField.wf (f : FoldbackField) : Bool :=
  fitsOpt 1 f.hold && fitsLevelOpt f.ceiling && fitsOpt 1 f.attack && fitsOpt 1 f.release &&
    fitsLevelOpt f.dim && fitsOpt 1 f.member && fitsLevelOpt f.talkLevel

def ZoneField.wf (f : ZoneField) : Bool :=
  fitsOpt 1 f.programme && fitsLevelOpt f.depth && fitsOpt 4 f.attack && fitsOpt 4 f.release &&
    fitsLevelOpt f.pageLevel

/-- A read returns as many bytes as were asked for, or a bus error (10, R187). -/
def ReadData.wf (ok : Nat → Bool) : ReadData → Bool
  | .data bytes => ok bytes.length
  | .busError => true

/-- The pins carry 64 input slots (02, R28). -/
def Pins.wf (p : Pins) : Bool := p.slots.length == 64

def Target.wf : Target → Bool
  | .channel c => c < 123
  | .crosspoint b c => b < 25 && (c < 123 || (128 ≤ c && c < 136))
  | .master b => b < 25
  | .zoneLevel z => 1 ≤ z && z ≤ 32
  | .duck z => 1 ≤ z && z ≤ 32
  | .busInterlock b => b < 24
  | .zoneInterlock z => 1 ≤ z && z ≤ 32
  | .dim m => 1 ≤ m && m ≤ 16

/-- Every operand fits its field. -/
def Instr.wf : Instr → Bool
  | .powerOn | .runWritten1 | .runWritten0 | .softReset | .wake => true
  | .registerWrite offset _ _ => fits 1 offset
  | .causeClear _ | .maskWrite _ => true
  | .rootBlockReadComplete d => d.wf (· == 128)
  | .windowTableReadComplete d pins => d.wf (fun n => n % 16 == 0 && 16 ≤ n && n ≤ 256) && pins.wf
  | .orphanReadReturn d => d.wf fun _ => true
  | .stoppingEnd | .readSlotGrant => true
  | .samplePeriod pins _ => pins.wf
  | .controlPeriod => true
  | .fadeComplete t => t.wf
  | .actionDue | .followExpired => true
  | .voiceStart v | .tailEnd v | .cutRampEnd v | .pauseRampEnd v | .pathEnd v => 1 ≤ v && v ≤ 64
  | .waitExpiry p | .lengthExpiry p => fits 2 p
  | .flashWindowEnd => true
  | .inputChange c watcherAt first => 1 ≤ c && c ≤ 24 && watcherAt ≤ 21 && first.all (· < 21)
  | .measurementWindowEnd | .lossEvent | .changeoverBoundary | .pollTimerExpiry | .statusPageWrite => true
  | .fetchComplete v d => 1 ≤ v && v ≤ 64 && d.wf (fun n => n % 4 == 0 && 4 ≤ n && n ≤ 1024)
  | .armingReadComplete _ d => d.wf (fun n => n == 8 || n == 96 || (n % 32 == 0 && 32 ≤ n && n ≤ 256))
  | .sceneReadComplete n d => fits 4 n && d.wf (fun k => k % 4 == 0 && 4 ≤ k && k ≤ 192)
  | .chainLinkReadComplete d | .reportLinkReadComplete d => d.wf (· == 8)
  | .chainRecordReadComplete d => d.wf (· == 128)
  | .loadWindowsReadComplete d => d.wf (fun n => n % 16 == 0 && 16 ≤ n && n ≤ 256)
  | .setLevel r t mode l => r.wf && t.wf && fits 1 mode && fitsLevel l
  | .fade r t mode l dur law => r.wf && t.wf && fits 1 mode && fitsLevel l && fits 4 dur && fits 1 law
  | .stopFade r t => r.wf && t.wf
  | .setSource r c mute => r.wf && fits 1 c && fits 1 mute
  | .setBus r b mute clear => r.wf && fits 1 b && fitsOpt 1 mute && fits 1 clear
  | .setContrib r b c l tap dur law =>
      r.wf && fits 1 b && fits 1 c && fitsLevel l && fits 1 tap && fits 4 dur && fits 1 law
  | .removeContrib r b c dur law => r.wf && fits 1 b && fits 1 c && fits 4 dur && fits 1 law
  | .startVoice r v d delay => r.wf && fits 1 v && d.wf && fits 4 delay
  | .stopVoice r v mode n => r.wf && fits 1 v && fits 1 mode && fits 4 n
  | .teardownVoice r v => r.wf && fits 1 v
  | .setReserve r _ => r.wf
  | .setSchedule r count vs => r.wf && fits 1 count && vs.length == min count 95 && vs.all (fits 1)
  | .loadBook r b i => r.wf && b.wf && fits 2 i
  | .goto r i => r.wf && fits 2 i
  | .go r | .hold r | .release r | .stopCues r | .relock r => r.wf
  | .fire r i => r.wf && fits 2 i
  | .setFoldback r m f => r.wf && fits 1 m && f.wf
  | .recallScene r l dur law => r.wf && l.wf && fits 4 dur && fits 1 law
  | .talk r v => r.wf && fits 1 v
  | .setZone r z f => r.wf && fits 1 z && f.wf
  | .setPageButton r b u f => r.wf && fits 1 b && fits 1 u && f.wf
  | .startPage r p => r.wf && p.wf
  | .endPage r p => r.wf && fits 2 p
  | .cancelPage r p => r.wf && fits 2 p
  | .resume r t => r.wf && fitsOpt 4 t
  | .setRoute r f c p => r.wf && fits 1 f && fits 1 c && fits 1 p
  | .setInput r c d rise fall => r.wf && fits 1 c && fitsOpt 4 d && fitsOpt 1 rise && fitsOpt 1 fall
  | .setPattern r mode _ _ action line => r.wf && fits 1 mode && fits 1 action && fits 1 line
  | .setOutput r k src g => r.wf && fits 1 k && fits 1 src && fits 1 g
  | .setClockLimits r w c h => r.wf && fitsOpt 2 w && fitsOpt 2 c && fitsOpt 2 h
  | .selectClock r v => r.wf && fits 1 v
  | .loadWindows r _ count => r.wf && fits 1 count
  | .setPoll r t => r.wf && fits 4 t
  | .clearFlags r _ => r.wf
  | .mark r _ => r.wf
  | .wordClockEdge | .writeBusError => true

end Sys2Proof
end

