-- ==== Sys2Proof/Decode.lean ====
section
/-! DEFINITION. Words that spell a command. No row of spec/opcode_table.json gives bits: the SE-48 has
no instruction words. Command RECORDS are decoded in Machine/Records.lean, from 11, R189. -/

namespace Sys2Proof

/-- The command that the low `nbits` bits of `w` spell. The table gives no row any bits, so no word
spells a command. -/
def decodeTableWord (_nbits _w : Nat) : Option Instr := none

end Sys2Proof
end

