-- ==== Sys2Proof/Machine/State.lean ====
section
/-! DEFINITION. The state of the SE-48, block by block, as plain data, and its value after reset. Each
structure is one block of 00_scope.md "Block overview"; INVENTORY.md lists every field with its rule. -/

namespace Sys2Proof.Machine

/-! ### Memory link -/

/-- Part states, with the codes of CONTROL.STATE (10, R179). -/
inductive PartState
  | stopped | starting | running | stopping
  deriving DecidableEq, Repr

/-- Which read of a start is asked for or outstanding (10, R182); ROOT is read once, on entry. -/
inductive StartPhase
  | idle
  | root (addr : Nat)
  | table
  deriving DecidableEq, Repr

/-- The fields of the root block (10, R182), as clamped. -/
structure Setup where
  rate : Nat
  external : Bool
  enables : BitVec 8
  poll : Nat
  meter : Nat
  tableAddr : Nat
  count : Nat
  chainStart : Link
  freeHead : Link
  anchor : Link
  status : Link
  deriving DecidableEq, Repr

/-- One cached window (10, R184). -/
structure Window where
  base : Nat
  limit : Nat
  rd : Bool
  wr : Bool
  valid : Bool
  deriving DecidableEq, Repr

/-- Requesting blocks as faults name them, in the order of 11, R197. -/
inductive Block
  | none | chain | cue | voice | scene | report | status | windows
  deriving DecidableEq, Repr

/-- The last fault (10, R185). -/
structure LastFault where
  win : Nat
  off : Nat
  block : Block
  deriving DecidableEq, Repr

/-- What an outstanding read is for (10, R187). An arming read that is not `live` belongs to an abandoned
arming (04, R79); an `orphan` was left by a soft reset (10, R181). -/
inductive ReadUse
  | root
  | startTable
  | loadWindows (r : Link) (count : Nat)
  | reportHead
  | chainLink
  | chainRecord (l : Link)
  | arming (fire live : Bool)
  | scene (number : Nat)
  | fetch (voice : Nat)
  | orphan
  deriving DecidableEq, Repr

/-- A read slot in use, with the access it makes (10, R185, R187). The reads that name no window, of ROOT and
of window tables, carry link END (log 11). -/
structure Outstanding where
  use : ReadUse
  addr : Nat
  len : Nat
  link : Link
  deriving DecidableEq, Repr

/-- A LOAD_WINDOWS whose read has not been granted yet (10, R187). -/
structure LoadReq where
  r : Link
  addr : Nat
  count : Nat
  deriving DecidableEq, Repr

/-- Chain reader states (11, R190); READING carries the link under judgement. -/
inductive Reader
  | waiting
  | looking
  | reading (l : Link)
  | blocked
  deriving DecidableEq, Repr

/-- What an in-flight command waits on (11, R192). A START_VOICE is `held` while its request is the
waiting start of a DRAINING voice (03, R59). -/
inductive Job
  | startVoice (voice : Nat) (held : Bool)
  | teardown (voice : Nat)
  | seqArm
  | fireArm
  | scene (number : Nat)
  | relock
  | loadWindows
  deriving DecidableEq, Repr

/-- A slot of the in-flight table (11, R192). -/
structure InFlight where
  r : Link
  kind : Nat
  job : Job
  clamped : Bool
  deriving DecidableEq, Repr

/-- What the report writer knows of the link behind the free-list head (11, R196). -/
inductive NextLink
  | unknown
  | endOfList
  | known (l : Link)
  deriving DecidableEq, Repr

/-- A report raised (11, R197); classes 0 CUE, 1 PAGE, 2 AUDIO, 3 SYSTEM. -/
structure Report where
  cls : Nat
  kind : Nat
  subject : Word
  d1 : Word
  d2 : Word
  stamp : Nat
  deriving DecidableEq, Repr

/-- One write to the bus: runs of bytes, each with its absolute address. -/
structure BusWrite where
  runs : List (Nat × List Byte)
  deriving DecidableEq, Repr

structure Ml where
  part : PartState
  run : Bool
  root : Wide
  cause : Word
  mask : Word
  phase : StartPhase
  abandoned : Bool
  setup : Option Setup
  windows : Vector Window 16
  lastFault : Option LastFault
  slots : List Outstanding
  loads : List LoadReq
  position : Option Link
  reader : Reader
  lookOwed : Bool
  pollInterval : Nat
  pollStart : Nat
  inflight : List InFlight
  freeHead : Option Link
  nextLink : NextLink
  anchor : Option Link
  queue : List Report
  headWanted : Bool
  lost : Vector Nat 4
  statusCount : Nat
  nextStatus : Nat
  writes : List BusWrite
  deriving DecidableEq, Repr

/-! ### Level unit -/

/-- Fade laws (01, R5). -/
inductive Law
  | linear | early | late
  deriving DecidableEq, Repr

/-- Owners of fade entries (01, R14). -/
inductive Owner
  | cue (run : Nat)
  | host
  | scene (number : Nat)
  | relay (zone : Nat)
  | interlock
  | talk
  deriving DecidableEq, Repr

/-- Why an entry left the fade table (01, R15). -/
inductive FadeCause
  | completed | takenOver | stopped | targetGone
  deriving DecidableEq, Repr

/-- A fade table entry (01, R13); `remove` is the completion action. -/
structure Fade where
  target : Target
  owner : Owner
  s : Int
  t : Int
  d : Nat
  k : Nat
  law : Law
  remove : Bool
  frozen : Bool
  deriving DecidableEq, Repr

structure Lv where
  channel : Vector Level 123
  master : Vector Level 25
  busInterlock : Vector Level 24
  zoneLevel : Vector Level 32
  duck : Vector Level 32
  zoneInterlock : Vector Level 32
  dim : Vector Level 16
  reduction : Vector Int 16
  fades : List Fade
  deriving DecidableEq, Repr

/-! ### Mix matrix -/

/-- A gain path: the gain of the last sample of the period before, and the gain formed for this period
(01, R12). -/
structure Path where
  gp : Int
  gn : Int
  deriving DecidableEq, Repr

/-- A contribution (02, R32). -/
structure Contrib where
  source : Nat
  level : Level
  pre : Bool
  leaving : Bool
  path : Path
  deriving DecidableEq, Repr

/-- A tail (02, R35): `falling` once the period of its fall has been formed. -/
structure Tail where
  source : Nat
  path : Path
  falling : Bool
  deriving DecidableEq, Repr

/-- A bus (02, R30), with its 64 output samples of the last period computed. -/
structure Bus where
  mute : Bool
  clip : Nat
  clamp : Bool
  peak : Nat
  list : List Contrib
  tails : List Tail
  out : List Int
  deriving DecidableEq, Repr

/-- What one sample period brought: the input slots 0–58, the outputs of the 64 voices, and for each page
that held a voice its arrival number and that voice's output (02, R27, R28; 06, R125). -/
structure Frame where
  inputs : List Int
  voices : Vector Int 64
  pages : List (Nat × Int)
  deriving DecidableEq, Repr

structure Mx where
  mute : Vector Bool 123
  buses : Vector Bus 25
  talkPaths : Vector Path 16
  frames : List Frame
  nextPeriod : Nat
  closingAt : Option Nat
  closingDone : Bool
  deriving DecidableEq, Repr

/-! ### Voice unit -/

/-- Voice states in the order of 03, R49. -/
inductive VState
  | free | priming | primed | playing | tailing | paused | draining
  deriving DecidableEq, Repr

/-- Owners of voices (03, R49); `await fire` awaits a run of the sequence or of the fire slot. -/
inductive VOwner
  | none
  | await (fire : Bool)
  | cue (run : Nat)
  | host
  | page (id : Nat)
  deriving DecidableEq, Repr

/-- Loop modes (03, R51). -/
inductive LoopMode
  | once
  | loop
  | loopN (count : Nat)
  deriving DecidableEq, Repr

/-- An accepted sample descriptor (03, R51). -/
structure Desc where
  win : Nat
  off : Nat
  frames : Nat
  loopStart : Nat
  loopEnd : Nat
  mode : LoopMode
  deriving DecidableEq, Repr

inductive VStart
  | notYet
  | whenPrimed
  | at (due : Nat)
  deriving DecidableEq, Repr

/-- A place on the playing path (03, R52): `second` in the second descriptor, `left` the loop count left
(`none`: loops without end), `idx` how many frames of the path lie before it, `done` past the end. -/
structure Pos where
  second : Bool
  frame : Nat
  left : Option Nat
  idx : Nat
  done : Bool
  deriving DecidableEq, Repr

/-- A block of a buffer: the path index of its first frame, and its words (03, R53). -/
structure SampleBlock where
  idx : Nat
  words : List Word
  deriving DecidableEq, Repr

/-- A fetch outstanding: where its block begins on the path and in the sample, how long it is, and
whether its data is to be discarded (03, R64). -/
structure Fetch where
  idx : Nat
  second : Bool
  frame : Nat
  len : Nat
  discard : Bool
  deriving DecidableEq, Repr

inductive StopMode
  | none | cut | after | release
  deriving DecidableEq, Repr

/-- A ramp of the envelope (03, R61): `i` is the index of its next sample. -/
structure Ramp where
  v0 : Int
  v1 : Int
  i : Nat
  deriving DecidableEq, Repr

/-- Causes of VOICE_END (03, R66). -/
inductive EndCause
  | finished | stopped | tornDown | fault
  deriving DecidableEq, Repr

/-- A start request (03, R59). -/
structure StartReq where
  owner : VOwner
  desc : Desc
  desc2 : Option Desc
  start : VStart
  deriving DecidableEq, Repr

structure Voice where
  st : VState
  owner : VOwner
  desc : Option Desc
  desc2 : Option Desc
  start : VStart
  startFrom : Nat
  late : Bool
  pos : Pos
  fpos : Pos
  blocks : List SampleBlock
  fetch : Option Fetch
  stop : StopMode
  tail : Nat
  env : Int
  ramp : Option Ramp
  priorTailing : Bool
  underruns : Nat
  underrunReported : Bool
  inUnderrun : Bool
  endCause : EndCause
  waiting : Option StartReq
  deriving DecidableEq, Repr

structure Vu where
  voices : Vector Voice 64
  table : List Nat
  index : Nat
  reserve : BitVec 64
  deriving DecidableEq, Repr

/-! ### Cue engine -/

inductive SeqState
  | empty | arming | standby | ended | faulted
  deriving DecidableEq, Repr

/-- Trigger kinds (04, R77). -/
inductive Trigger
  | manual
  | followGo
  | followDone
  | input (line : Nat)
  deriving DecidableEq, Repr

/-- Action kinds with their arguments as clamped at arming (04, R78, R81). -/
inductive ActionBody
  | fade (t : TargetField) (mode : Nat) (level : Int) (dur law : Nat)
  | setLevel (t : TargetField) (mode : Nat) (level : Int)
  | setContrib (bus source : Nat) (level : Int) (tap dur law : Nat)
  | removeContrib (bus source dur law : Nat)
  | startVoice (voice : Nat) (d : DescField)
  | stopVoice (voice mode frames : Nat)
  | recallScene (l : Link) (dur law : Nat)
  | startPage (l : Link)
  | setOutput (output value : Nat)
  | mark (value : Word)
  deriving DecidableEq, Repr

structure Action where
  delay : Nat
  body : ActionBody
  deriving DecidableEq, Repr

/-- Skip reasons in the order of 11, R197. -/
inductive Skip
  | held | reserved | notPrimed | range | state | full | interlock
  deriving DecidableEq, Repr

/-- Prime statuses (04, R79). -/
inductive PrimeStatus
  | priming
  | primed
  | failed (reason : Skip)
  deriving DecidableEq, Repr

structure Prime where
  act : Nat
  voice : Nat
  status : PrimeStatus
  deriving DecidableEq, Repr

/-- The validated copy of one cue record (04, R79); during arming, what has been read of it. -/
structure Cue where
  index : Nat
  display : Nat
  next : Option Nat
  trigger : Trigger
  wait : Nat
  count : Nat
  actions : List Action
  clamps : Nat
  pages : List (Nat × PageField)
  primes : List Prime
  deriving DecidableEq, Repr

/-- The step an arming has reached (04, R79): the read it next makes, or has outstanding. -/
inductive ArmStep
  | index
  | header (rec : Link)
  | actions (rec : Link)
  | pages (todo : List (Nat × Link))
  | priming
  deriving DecidableEq, Repr

structure Arming where
  cue : Cue
  step : ArmStep
  deriving DecidableEq, Repr

/-- A show-clock value, or a count of samples kept while the freeze condition holds (04, R91). -/
inductive When
  | at (sample : Nat)
  | remaining (count : Nat)
  deriving DecidableEq, Repr

inductive Follow
  | idle
  | waitingDone
  | counting (due : When)
  | expired
  deriving DecidableEq, Repr

/-- An event a follow wait counts from: its sample, or the samples passed since it while frozen. -/
inductive Since
  | at (sample : Nat)
  | passed (count : Nat)
  deriving DecidableEq, Repr

/-- The predecessor run (04, R84), with the two events a follow may count from (log 17); `followOff`
once STOP_CUES has returned the timer to IDLE. -/
structure Pred where
  run : Nat
  triggered : Since
  completed : Option Since
  followOff : Bool
  deriving DecidableEq, Repr

structure Run where
  number : Nat
  index : Nat
  display : Nat
  trigger : Nat
  deriving DecidableEq, Repr

/-- An entry of the timed action queue (04, R91); `failed` is the skip reason of a failed prime, and
`page` the page block of a START_PAGE action. -/
structure Queued where
  due : When
  run : Nat
  act : Nat
  body : ActionBody
  failed : Option Skip
  page : Option PageField
  deriving DecidableEq, Repr

inductive GoSource
  | command | contact | pattern
  deriving DecidableEq, Repr

inductive FireState
  | idle | arming | waiting
  deriving DecidableEq, Repr

structure Ce where
  book : Option Link
  seq : SeqState
  armed : Option Cue
  seqArm : Option Arming
  latched : Option GoSource
  pred : Option Pred
  follow : Follow
  runCounter : Nat
  runs : List Run
  queue : List Queued
  fire : FireState
  fireArm : Option Arming
  fireCue : Option Cue
  hold : Bool
  deriving DecidableEq, Repr

/-! ### Foldback controller -/

structure Mix where
  held : Bool
  ceiling : Int
  attack : Nat
  release : Nat
  dimDepth : Level
  inSet : Bool
  talkLevel : Level
  talking : Bool
  gate : Bool
  deriving DecidableEq, Repr

/-- An entry of a scene's mix block (05, R114). -/
structure SceneEntry where
  source : Nat
  pre : Bool
  level : Level
  deriving DecidableEq, Repr

structure MixBlock where
  mix : Nat
  master : Level
  entries : List SceneEntry
  deriving DecidableEq, Repr

/-- Which part of the scene record is read next (05, R114). -/
inductive SceneStep
  | header
  | mixHeader
  | entries (mix count : Nat) (master : Level)
  deriving DecidableEq, Repr

/-- A recall in progress (05, R116); `r` is the record of a command, `pos` the offset of the next read
within the scene record. -/
structure Recall where
  number : Nat
  r : Option Link
  link : Link
  dur : Nat
  law : Law
  step : SceneStep
  pos : Nat
  scene : Nat
  left : Nat
  mixes : List MixBlock
  clamped : Bool
  deriving DecidableEq, Repr

structure Fb where
  mixes : Vector Mix 16
  talkCmd : Bool
  talkFn : Bool
  recallCounter : Nat
  recalls : List Recall
  deriving DecidableEq, Repr

/-! ### Relay controller -/

inductive DuckFade
  | none | attack | release
  deriving DecidableEq, Repr

structure Zone where
  programme : Bool
  depth : Level
  attack : Nat
  release : Nat
  groups : BitVec 8
  pageLevel : Level
  holder : Option Nat
  duckFade : DuckFade
  progPath : Path
  pagePath : Path
  out : List Int
  sent : List Int
  deriving DecidableEq, Repr

inductive PageState
  | waiting | attack | chime | onAir
  deriving DecidableEq, Repr

/-- Page end causes in the order of 11, R197. -/
inductive PageCause
  | done | released | cancelled | expired | timeout | preempted | interlock
  deriving DecidableEq, Repr

/-- A page (06, R128). `ownZones` and `groups` are the zone set and the group set of its request, `zones` its
requested set. The zones it holds are those whose holder it is. `waitLimit` `none` is UNLIMITED;
`gateAtStart` is the mic gate at the start of the period in progress, `audio` the page audio of the last
period (06, R125). -/
structure Page where
  id : Nat
  priority : Nat
  partialMode : Bool
  ownZones : BitVec 32
  groups : BitVec 8
  zones : BitVec 32
  live : Bool
  mic : Nat
  waitLimit : Option Nat
  liveLimit : Nat
  recording : Option Desc
  chime : Option Desc
  st : PageState
  arrival : Nat
  voice : Option Nat
  gate : Bool
  gateAtStart : Bool
  waitExpiry : Option Nat
  lengthExpiry : Option Nat
  audio : List Int
  deriving DecidableEq, Repr

structure Button where
  zones : BitVec 32
  groups : BitVec 8
  priority : Nat
  partialMode : Bool
  mic : Nat
  deriving DecidableEq, Repr

structure Rc where
  zones : Vector Zone 32
  pages : List Page
  mics : Vector (Option Nat) 2
  arrival : Nat
  buttons : Vector (Option Button) 8
  onAir : BitVec 8
  deriving DecidableEq, Repr

/-! ### Interlock controller -/

inductive IlState
  | clear | active | latched | resuming
  deriving DecidableEq, Repr

structure Il where
  st : IlState
  resumeTime : Nat
  resumeUsed : Nat
  resumeSet : List Target
  activation : Nat
  deriving DecidableEq, Repr

/-! ### Contact unit -/

/-- The functions of 08, R161. -/
inductive Func
  | go | hold | talk | interlock | mark
  | page (n : Nat)
  | trig (n : Nat)
  deriving DecidableEq, Repr

inductive Polarity
  | closed | opened | default
  deriving DecidableEq, Repr

structure Route where
  fn : Func
  input : Nat
  pol : Polarity
  active : Bool
  deriving DecidableEq, Repr

/-- An input record (08, R159, R160); `closed` is the debounced state, `due` says that the count reached
the debounce time at this sample. -/
structure Input where
  closed : Bool
  count : Nat
  time : Nat
  rise : Bool
  fall : Bool
  edge : Bool
  due : Bool
  deriving DecidableEq, Repr

inductive PatternMode
  | off | event | matching
  deriving DecidableEq, Repr

inductive PatternAction
  | report
  | go
  | trig (line : Nat)
  deriving DecidableEq, Repr

/-- Output sources (08, R167). -/
inductive OutSource
  | off | on | standby | goFlash | clockFault | interlock
  | onAir (group : Nat)
  | cueSet
  deriving DecidableEq, Repr

structure Output where
  source : OutSource
  cueValue : Bool
  deriving DecidableEq, Repr

structure Cu where
  inputs : Vector Input 24
  routes : List Route
  mode : PatternMode
  mask : BitVec 16
  compare : BitVec 16
  action : PatternAction
  equal : Bool
  outputs : Vector Output 16
  flash : Option Nat
  deriving DecidableEq, Repr

/-! ### Clock unit -/

inductive ClockState
  | extGood | extWarn | extAcquiring | intFallback | intSelected
  deriving DecidableEq, Repr

structure Ck where
  now : Nat
  rate : Nat
  st : ClockState
  warn : Nat
  change : Nat
  hyst : Nat
  deviation : Int
  good : Nat
  changeovers : Nat
  silentNext : Option Nat
  silentNow : Option Nat
  external : Bool
  selected : Bool
  acqFresh : Bool
  edges : Nat
  windowPos : Nat
  gap : Nat
  lossRaised : Bool
  deriving DecidableEq, Repr

/-! ### The machine -/

/-- A notice from one block to another (01, R15; 03, R68, R69; 06, R130), acted on after the operation
that raised it (log 22). -/
inductive Notice
  | fade (o : Owner) (t : Target) (c : FadeCause)
  | primed (voice : Nat) (fire : Bool)
  | primeLost (voice : Nat) (fire : Bool)
  | pageStarted (page voice : Nat)
  | pagePartEnded (page voice : Nat)
  | pageVoiceEnded (page voice : Nat) (cause : EndCause)
  | scan
  deriving DecidableEq, Repr

structure State where
  pending : List Instr
  notices : List Notice
  choices : Nat
  ml : Ml
  lv : Lv
  mx : Mx
  vu : Vu
  ce : Ce
  fb : Fb
  rc : Rc
  il : Il
  cu : Cu
  ck : Ck
  deriving DecidableEq, Repr

/-- Faults that stop the machine. The spec gives the SE-48 no such fault: every fault it names is an
effect on State (CAUSE bits, reports, block states), so this type has no constructor. -/
inductive Fault
  deriving DecidableEq, Repr

/-- Refusals. -/
inductive Refusal
  /-- Raised by an arm of `exec` whose row has no meaning yet. Safe: the model stops where the part goes
  on. No arm raises it now. -/
  | notModelled (mnemonic : String)
  deriving DecidableEq, Repr

/-! ### Values after reset -/

/-- 64 samples of silence. -/
def silence : List Int := List.replicate 64 0

def Window.reset : Window := ⟨0, 0, false, false, false⟩

/-- The ML after power-on (10, R179, R188). -/
def Ml.reset : Ml where
  part := .stopped
  run := false
  root := 0
  cause := 0
  mask := 0
  phase := .idle
  abandoned := false
  setup := none
  windows := Vector.replicate 16 Window.reset
  lastFault := none
  slots := []
  loads := []
  position := none
  reader := .waiting
  lookOwed := false
  pollInterval := 0
  pollStart := 0
  inflight := []
  freeHead := none
  nextLink := .unknown
  anchor := none
  queue := []
  headWanted := false
  lost := Vector.replicate 4 0
  statusCount := 0
  nextStatus := 0
  writes := []

/-- The level store and the fade table after any reset (01, R2, R13). -/
def Lv.reset : Lv where
  channel := Vector.replicate 123 off
  master := Vector.replicate 25 0
  busInterlock := Vector.replicate 24 0
  zoneLevel := Vector.replicate 32 0
  duck := Vector.replicate 32 0
  zoneInterlock := Vector.replicate 32 0
  dim := Vector.replicate 16 0
  reduction := Vector.replicate 16 0
  fades := []

def Path.zero : Path := ⟨0, 0⟩

/-- A bus after any reset (02, R30, R43). -/
def Bus.reset : Bus := ⟨false, 0, false, 0, [], [], silence⟩

/-- The MX after any reset (02, R27, R30). -/
def Mx.reset : Mx where
  mute := Vector.replicate 123 false
  buses := Vector.replicate 25 Bus.reset
  talkPaths := Vector.replicate 16 Path.zero
  frames := []
  nextPeriod := 0
  closingAt := none
  closingDone := false

def Pos.zero : Pos := ⟨false, 0, none, 0, false⟩

/-- A FREE voice (03, R49). Its positions, loop counts, tail and underrun marks are named by log 5. -/
def Voice.reset : Voice where
  st := .free
  owner := .none
  desc := none
  desc2 := none
  start := .notYet
  startFrom := 0
  late := false
  pos := Pos.zero
  fpos := Pos.zero
  blocks := []
  fetch := none
  stop := .none
  tail := 0
  env := 32768
  ramp := none
  priorTailing := false
  underruns := 0
  underrunReported := false
  inUnderrun := false
  endCause := .finished
  waiting := none

/-- The VU after any reset (03, R49, R54, R68). -/
def Vu.reset : Vu := ⟨Vector.replicate 64 Voice.reset, [], 0, 0⟩

/-- The CE after any reset (04, R79, R94, R95). -/
def Ce.reset : Ce where
  book := none
  seq := .empty
  armed := none
  seqArm := none
  latched := none
  pred := none
  follow := .idle
  runCounter := 0
  runs := []
  queue := []
  fire := .idle
  fireArm := none
  fireCue := none
  hold := false

/-- A foldback mix record after any reset (05, R103). -/
def Mix.reset : Mix := ⟨false, 0, 16, 1, -192, false, 0, false, false⟩

def Fb.reset : Fb := ⟨Vector.replicate 16 Mix.reset, false, false, 0, []⟩

/-- A zone record after any reset (06, R123). -/
def Zone.reset : Zone where
  programme := true
  depth := -320
  attack := 300
  release := 1500
  groups := 0
  pageLevel := 0
  holder := none
  duckFade := .none
  progPath := Path.zero
  pagePath := Path.zero
  out := silence
  sent := silence

/-- The RC after any reset (06, R123, R128, R143, R144). -/
def Rc.reset : Rc where
  zones := Vector.replicate 32 Zone.reset
  pages := []
  mics := Vector.replicate 2 none
  arrival := 0
  buttons := Vector.replicate 8 none
  onAir := 0

/-- The IL after any reset (07, R149). -/
def Il.reset : Il := ⟨.clear, 2000, 0, [], 0⟩

/-- An input after any reset (08, R160). -/
def Input.reset : Input := ⟨false, 0, 10, false, false, false, false⟩

/-- The CU after any reset (08, R160, R161, R165, R167, R168). -/
def Cu.reset : Cu where
  inputs := Vector.replicate 24 Input.reset
  routes := []
  mode := .off
  mask := 0
  compare := 0
  action := .report
  equal := false
  outputs := Vector.replicate 16 ⟨.off, false⟩
  flash := none

/-- The CK after any reset (09, R170, R171). -/
def Ck.reset : Ck where
  now := 0
  rate := 0
  st := .intSelected
  warn := 100
  change := 500
  hyst := 50
  deviation := 0
  good := 0
  changeovers := 0
  silentNext := none
  silentNow := none
  external := false
  selected := false
  acqFresh := false
  edges := 0
  windowPos := 0
  gap := 0
  lossRaised := false

/-- The machine right after power-on (10, R181), with an empty queue of commands. -/
def State.reset : State where
  pending := []
  notices := []
  choices := 0
  ml := Ml.reset
  lv := Lv.reset
  mx := Mx.reset
  vu := Vu.reset
  ce := Ce.reset
  fb := Fb.reset
  rc := Rc.reset
  il := Il.reset
  cu := Cu.reset
  ck := Ck.reset

end Sys2Proof.Machine
end

