-- ==== Sys2Proof/Machine/Bytes.lean ====
section
/-! DEFINITION. Fields of records in host memory: all little-endian (10, R183), signed ones in two's
complement. A byte that a read did not bring counts as 0 (log 7). -/

namespace Sys2Proof.Machine

/-- The value of a run of bytes, first byte least significant. -/
def leNat : List Byte → Nat
  | [] => 0
  | b :: bs => b.toNat + 256 * leNat bs

/-- The `n` bytes of a value, least significant first. -/
def toLe : Nat → Nat → List Byte
  | 0, _ => []
  | n + 1, v => BitVec.ofNat 8 v :: toLe n (v / 256)

/-- The unsigned field of `n` bytes at offset `at`. -/
def fieldAt (bytes : List Byte) (at_ n : Nat) : Nat := leNat ((bytes.drop at_).take n)

/-- An unsigned 16-bit value read as signed. -/
def signed16 (v : Nat) : Int := if v < 32768 then (v : Int) else (v : Int) - 65536

/-- The signed 16-bit field at offset `at`. -/
def levelAt (bytes : List Byte) (at_ : Nat) : Int := signed16 (fieldAt bytes at_ 2)

/-- A signed value as a 16-bit field. -/
def unsigned16 (v : Int) : Nat := (v % 65536).toNat

/-- The link at offset `at` (10, R183). -/
def linkAt (bytes : List Byte) (at_ : Nat) : Link := ⟨fieldAt bytes at_ 1, fieldAt bytes (at_ + 1) 7⟩

/-- END is window 255 (10, R183). -/
def isEnd (l : Link) : Bool := l.win == 255

/-- The eight bytes of a link. -/
def linkBytes (l : Link) : List Byte := toLe 1 l.win ++ toLe 7 l.off

/-- The END link. Its offset bytes are not read (10, R183); the part writes them as 0 (log 14). -/
def endLink : Link := ⟨255, 0⟩

/-- The sample descriptor at offset `at` (06, R126). -/
def descAt (bytes : List Byte) (at_ : Nat) : DescField where
  win := fieldAt bytes at_ 1
  off := fieldAt bytes (at_ + 1) 7
  frames := fieldAt bytes (at_ + 8) 4
  loopStart := fieldAt bytes (at_ + 12) 4
  loopEnd := fieldAt bytes (at_ + 16) 4
  mode := fieldAt bytes (at_ + 20) 1
  count := fieldAt bytes (at_ + 22) 2

/-- The target at offset `at` (11, R189). -/
def targetAt (bytes : List Byte) (at_ : Nat) : TargetField :=
  ⟨fieldAt bytes at_ 1, fieldAt bytes (at_ + 1) 1, fieldAt bytes (at_ + 2) 1⟩

/-- The page record at offset `at` (06, R126). -/
def pageAt (bytes : List Byte) (at_ : Nat) : PageField where
  id := fieldAt bytes at_ 2
  priority := fieldAt bytes (at_ + 2) 1
  mode := fieldAt bytes (at_ + 3) 1
  zones := BitVec.ofNat 32 (fieldAt bytes (at_ + 4) 4)
  groups := BitVec.ofNat 8 (fieldAt bytes (at_ + 8) 1)
  source := fieldAt bytes (at_ + 9) 1
  mic := fieldAt bytes (at_ + 10) 1
  chime := fieldAt bytes (at_ + 11) 1
  waitLimit := fieldAt bytes (at_ + 12) 4
  liveLimit := fieldAt bytes (at_ + 16) 2
  recording := descAt bytes (at_ + 32)
  chimeDesc := descAt bytes (at_ + 64)

end Sys2Proof.Machine
end

