-- ==== Sys2Proof/Machine/Records.lean ====
section
/-! DEFINITION. Command records: the argument fields of each kind of the catalogue, read from the 96 bytes
from byte 32 on, and laid out there again (11, R189, R195; log 15). -/

namespace Sys2Proof.Machine

/-! ### Reading -/

/-- A one-byte field at offset `i` of the argument area. -/
def u8 (a : List Byte) (i : Nat) : Nat := fieldAt a i 1
def u16 (a : List Byte) (i : Nat) : Nat := fieldAt a i 2
def u32 (a : List Byte) (i : Nat) : Nat := fieldAt a i 4
def u64 (a : List Byte) (i : Nat) : Nat := fieldAt a i 8

/-- The i-th field that may be LEAVE, by the leave mask at the front of the area (11, R189). -/
def leaveOr {α : Type} (a : List Byte) (i : Nat) (v : α) : Option α :=
  if (u16 a 0).testBit i then none else some v

/-- The fields of SET_FOLDBACK (05, R121). -/
def foldbackAt (a : List Byte) : FoldbackField where
  hold := leaveOr a 0 (u8 a 3)
  ceiling := leaveOr a 1 (levelAt a 4)
  attack := leaveOr a 2 (u8 a 6)
  release := leaveOr a 3 (u8 a 7)
  dim := leaveOr a 4 (levelAt a 8)
  member := leaveOr a 5 (u8 a 10)
  talkLevel := leaveOr a 6 (levelAt a 11)

/-- The fields of SET_ZONE (06, R146). -/
def zoneAt (a : List Byte) : ZoneField where
  programme := leaveOr a 0 (u8 a 3)
  depth := leaveOr a 1 (levelAt a 4)
  attack := leaveOr a 2 (u32 a 6)
  release := leaveOr a 3 (u32 a 10)
  groups := leaveOr a 4 (BitVec.ofNat 8 (u8 a 14))
  pageLevel := leaveOr a 5 (levelAt a 15)

/-- The five fields of SET_PAGE_BUTTON (06, R144). -/
def buttonAt (a : List Byte) : ButtonField where
  zones := BitVec.ofNat 32 (u32 a 2)
  groups := BitVec.ofNat 8 (u8 a 6)
  priority := u8 a 7
  mode := u8 a 8
  mic := u8 a 9

/-- The command of kind 1–12 with argument area `a` (11, R195). -/
def decodeLow (r : Link) (kind : Nat) (a : List Byte) : Option Instr :=
  match kind with
  | 1 => some (.setLevel r (targetAt a 0) (u8 a 3) (levelAt a 4))
  | 2 => some (.fade r (targetAt a 0) (u8 a 3) (levelAt a 4) (u32 a 6) (u8 a 10))
  | 3 => some (.stopFade r (targetAt a 0))
  | 4 => some (.setSource r (u8 a 0) (u8 a 1))
  | 5 => some (.setBus r (u8 a 2) (leaveOr a 0 (u8 a 3)) (u8 a 4))
  | 6 => some (.setContrib r (u8 a 0) (u8 a 1) (levelAt a 2) (u8 a 4) (u32 a 5) (u8 a 9))
  | 7 => some (.removeContrib r (u8 a 0) (u8 a 1) (u32 a 2) (u8 a 6))
  | 8 => some (.startVoice r (u8 a 0) (descAt a 1) (u32 a 25))
  | 9 => some (.stopVoice r (u8 a 0) (u8 a 1) (u32 a 2))
  | 10 => some (.teardownVoice r (u8 a 0))
  | 11 => some (.setReserve r (BitVec.ofNat 64 (u64 a 0)))
  | 12 => some (.setSchedule r (u8 a 0) ((List.range (min (u8 a 0) 95)).map fun i => u8 a (1 + i)))
  | _ => none

/-- The command of kind 13–28 (11, R195). -/
def decodeMid (r : Link) (kind : Nat) (a : List Byte) : Option Instr :=
  match kind with
  | 13 => some (.loadBook r (linkAt a 0) (u16 a 8))
  | 14 => some (.goto r (u16 a 0))
  | 15 => some (.go r)
  | 16 => some (.hold r)
  | 17 => some (.release r)
  | 18 => some (.fire r (u16 a 0))
  | 19 => some (.stopCues r)
  | 20 => some (.setFoldback r (u8 a 2) (foldbackAt a))
  | 21 => some (.recallScene r (linkAt a 0) (u32 a 8) (u8 a 12))
  | 22 => some (.talk r (u8 a 0))
  | 23 => some (.setZone r (u8 a 2) (zoneAt a))
  | 24 => some (.setPageButton r (u8 a 0) (u8 a 1) (buttonAt a))
  | 25 => some (.startPage r (pageAt a 0))
  | 26 => some (.endPage r (u16 a 0))
  | 27 => some (.cancelPage r (u16 a 0))
  | 28 => some (.resume r (leaveOr a 0 (u32 a 2)))
  | _ => none

/-- The command of kind 29–39 (11, R195). -/
def decodeHigh (r : Link) (kind : Nat) (a : List Byte) : Option Instr :=
  match kind with
  | 29 => some (.setRoute r (u8 a 0) (u8 a 1) (u8 a 2))
  | 30 => some (.setInput r (u8 a 2) (leaveOr a 0 (u32 a 3)) (leaveOr a 1 (u8 a 7)) (leaveOr a 2 (u8 a 8)))
  | 31 =>
    some (.setPattern r (u8 a 0) (BitVec.ofNat 16 (u16 a 1)) (BitVec.ofNat 16 (u16 a 3)) (u8 a 5) (u8 a 6))
  | 32 => some (.setOutput r (u8 a 0) (u8 a 1) (u8 a 2))
  | 33 => some (.setClockLimits r (leaveOr a 0 (u16 a 2)) (leaveOr a 1 (u16 a 4)) (leaveOr a 2 (u16 a 6)))
  | 34 => some (.selectClock r (u8 a 0))
  | 35 => some (.relock r)
  | 36 => some (.loadWindows r (BitVec.ofNat 64 (u64 a 0)) (u8 a 8))
  | 37 => some (.setPoll r (u32 a 0))
  | 38 => some (.clearFlags r (BitVec.ofNat 8 (u8 a 0)))
  | 39 => some (.mark r (BitVec.ofNat 32 (u32 a 0)))
  | _ => none

/-- The command of a kind of the catalogue with its argument area; `none` for an unknown kind
(11, R192, R195). -/
def decodeCommand (r : Link) (kind : Nat) (a : List Byte) : Option Instr :=
  if kind ≤ 12 then decodeLow r kind a
  else if kind ≤ 28 then decodeMid r kind a
  else decodeHigh r kind a

/-- The command of a record of 128 bytes (11, R189). -/
def decodeRecord (r : Link) (b : List Byte) : Option Instr := decodeCommand r (fieldAt b 12 2) (b.drop 32)

/-! ### Layout -/

/-- A level or a delta takes two bytes, signed. -/
def putLevelField (v : Int) : List Byte := toLe 2 (unsigned16 v)

def putTarget (t : TargetField) : List Byte := toLe 1 t.kind ++ toLe 1 t.id1 ++ toLe 1 t.id2

/-- A sample descriptor takes 24 bytes (06, R126; 11, R189). -/
def putDesc (d : DescField) : List Byte :=
  toLe 1 d.win ++ toLe 7 d.off ++ toLe 4 d.frames ++ toLe 4 d.loopStart ++ toLe 4 d.loopEnd ++ toLe 1 d.mode ++
    toLe 1 0 ++ toLe 2 d.count

/-- The 96 bytes of a page record (06, R126). -/
def putPage (p : PageField) : List Byte :=
  toLe 2 p.id ++ toLe 1 p.priority ++ toLe 1 p.mode ++ toLe 4 p.zones.toNat ++ toLe 1 p.groups.toNat ++
    toLe 1 p.source ++ toLe 1 p.mic ++ toLe 1 p.chime ++ toLe 4 p.waitLimit ++ toLe 2 p.liveLimit ++
    List.replicate 14 0 ++ putDesc p.recording ++ List.replicate 8 0 ++ putDesc p.chimeDesc ++
    List.replicate 8 0

/-- The leave mask of a list of fields: bit i set where the i-th is LEAVE (11, R189). -/
def leaveMask : List Bool → Nat
  | [] => 0
  | b :: bs => (if b then 1 else 0) + 2 * leaveMask bs

/-- The kind and argument fields of a chain command; `none` for a row that is no chain command. -/
def encodeArgs : Instr → Option (Nat × List Byte)
  | .setLevel _ t mode l => some (1, putTarget t ++ toLe 1 mode ++ putLevelField l)
  | .fade _ t mode l dur law =>
    some (2, putTarget t ++ toLe 1 mode ++ putLevelField l ++ toLe 4 dur ++ toLe 1 law)
  | .stopFade _ t => some (3, putTarget t)
  | .setSource _ c mute => some (4, toLe 1 c ++ toLe 1 mute)
  | .setBus _ b mute clear =>
    some (5, toLe 2 (leaveMask [mute.isNone]) ++ toLe 1 b ++ toLe 1 (mute.getD 0) ++ toLe 1 clear)
  | .setContrib _ b c l tap dur law =>
    some (6, toLe 1 b ++ toLe 1 c ++ putLevelField l ++ toLe 1 tap ++ toLe 4 dur ++ toLe 1 law)
  | .removeContrib _ b c dur law => some (7, toLe 1 b ++ toLe 1 c ++ toLe 4 dur ++ toLe 1 law)
  | .startVoice _ v d delay => some (8, toLe 1 v ++ putDesc d ++ toLe 4 delay)
  | .stopVoice _ v mode n => some (9, toLe 1 v ++ toLe 1 mode ++ toLe 4 n)
  | .teardownVoice _ v => some (10, toLe 1 v)
  | .setReserve _ v => some (11, toLe 8 v.toNat)
  | .setSchedule _ count vs => some (12, toLe 1 count ++ vs.flatMap (toLe 1))
  | .loadBook _ l i => some (13, linkBytes l ++ toLe 2 i)
  | .goto _ i => some (14, toLe 2 i)
  | .go _ => some (15, [])
  | .hold _ => some (16, [])
  | .release _ => some (17, [])
  | .fire _ i => some (18, toLe 2 i)
  | .stopCues _ => some (19, [])
  | .setFoldback _ m f =>
    some (20, toLe 2 (leaveMask [f.hold.isNone, f.ceiling.isNone, f.attack.isNone, f.release.isNone,
        f.dim.isNone, f.member.isNone, f.talkLevel.isNone]) ++ toLe 1 m ++ toLe 1 (f.hold.getD 0) ++
      putLevelField (f.ceiling.getD 0) ++ toLe 1 (f.attack.getD 0) ++ toLe 1 (f.release.getD 0) ++
      putLevelField (f.dim.getD 0) ++ toLe 1 (f.member.getD 0) ++ putLevelField (f.talkLevel.getD 0))
  | .recallScene _ l dur law => some (21, linkBytes l ++ toLe 4 dur ++ toLe 1 law)
  | .talk _ v => some (22, toLe 1 v)
  | .setZone _ z f =>
    some (23, toLe 2 (leaveMask [f.programme.isNone, f.depth.isNone, f.attack.isNone, f.release.isNone,
        f.groups.isNone, f.pageLevel.isNone]) ++ toLe 1 z ++ toLe 1 (f.programme.getD 0) ++
      putLevelField (f.depth.getD 0) ++ toLe 4 (f.attack.getD 0) ++ toLe 4 (f.release.getD 0) ++
      toLe 1 (f.groups.getD 0).toNat ++ putLevelField (f.pageLevel.getD 0))
  | .setPageButton _ b u f =>
    some (24, toLe 1 b ++ toLe 1 u ++ toLe 4 f.zones.toNat ++ toLe 1 f.groups.toNat ++ toLe 1 f.priority ++
      toLe 1 f.mode ++ toLe 1 f.mic)
  | .startPage _ p => some (25, putPage p)
  | .endPage _ p => some (26, toLe 2 p)
  | .cancelPage _ p => some (27, toLe 2 p)
  | .resume _ t => some (28, toLe 2 (leaveMask [t.isNone]) ++ toLe 4 (t.getD 0))
  | .setRoute _ f c p => some (29, toLe 1 f ++ toLe 1 c ++ toLe 1 p)
  | .setInput _ c d rise fall =>
    some (30, toLe 2 (leaveMask [d.isNone, rise.isNone, fall.isNone]) ++ toLe 1 c ++ toLe 4 (d.getD 0) ++
      toLe 1 (rise.getD 0) ++ toLe 1 (fall.getD 0))
  | .setPattern _ mode mask compare action line =>
    some (31, toLe 1 mode ++ toLe 2 mask.toNat ++ toLe 2 compare.toNat ++ toLe 1 action ++ toLe 1 line)
  | .setOutput _ k src g => some (32, toLe 1 k ++ toLe 1 src ++ toLe 1 g)
  | .setClockLimits _ w c h =>
    some (33, toLe 2 (leaveMask [w.isNone, c.isNone, h.isNone]) ++ toLe 2 (w.getD 0) ++ toLe 2 (c.getD 0) ++
      toLe 2 (h.getD 0))
  | .selectClock _ v => some (34, toLe 1 v)
  | .relock _ => some (35, [])
  | .loadWindows _ addr count => some (36, toLe 8 addr.toNat ++ toLe 1 count)
  | .setPoll _ t => some (37, toLe 4 t)
  | .clearFlags _ v => some (38, toLe 1 v.toNat)
  | .mark _ v => some (39, toLe 4 v.toNat)
  | .powerOn => none
  | .registerWrite _ _ _ => none
  | .runWritten1 => none
  | .runWritten0 => none
  | .softReset => none
  | .wake => none
  | .causeClear _ => none
  | .maskWrite _ => none
  | .rootBlockReadComplete _ => none
  | .windowTableReadComplete _ _ => none
  | .stoppingEnd => none
  | .orphanReadReturn _ => none
  | .readSlotGrant => none
  | .samplePeriod _ _ => none
  | .controlPeriod => none
  | .fadeComplete _ => none
  | .actionDue => none
  | .followExpired => none
  | .voiceStart _ => none
  | .tailEnd _ => none
  | .cutRampEnd _ => none
  | .pauseRampEnd _ => none
  | .pathEnd _ => none
  | .waitExpiry _ => none
  | .lengthExpiry _ => none
  | .flashWindowEnd => none
  | .inputChange _ _ _ => none
  | .measurementWindowEnd => none
  | .lossEvent => none
  | .changeoverBoundary => none
  | .pollTimerExpiry => none
  | .statusPageWrite => none
  | .fetchComplete _ _ => none
  | .armingReadComplete _ _ => none
  | .sceneReadComplete _ _ => none
  | .chainLinkReadComplete _ => none
  | .chainRecordReadComplete _ => none
  | .reportLinkReadComplete _ => none
  | .loadWindowsReadComplete _ => none
  | .wordClockEdge => none
  | .writeBusError => none

/-- The link of the record that a command came in. -/
def recordLink : Instr → Option Link
  | .setLevel r _ _ _ => some r
  | .fade r _ _ _ _ _ => some r
  | .stopFade r _ => some r
  | .setSource r _ _ => some r
  | .setBus r _ _ _ => some r
  | .setContrib r _ _ _ _ _ _ => some r
  | .removeContrib r _ _ _ _ => some r
  | .startVoice r _ _ _ => some r
  | .stopVoice r _ _ _ => some r
  | .teardownVoice r _ => some r
  | .setReserve r _ => some r
  | .setSchedule r _ _ => some r
  | .loadBook r _ _ => some r
  | .goto r _ => some r
  | .go r => some r
  | .hold r => some r
  | .release r => some r
  | .fire r _ => some r
  | .stopCues r => some r
  | .setFoldback r _ _ => some r
  | .recallScene r _ _ _ => some r
  | .talk r _ => some r
  | .setZone r _ _ => some r
  | .setPageButton r _ _ _ => some r
  | .startPage r _ => some r
  | .endPage r _ => some r
  | .cancelPage r _ => some r
  | .resume r _ => some r
  | .setRoute r _ _ _ => some r
  | .setInput r _ _ _ _ => some r
  | .setPattern r _ _ _ _ _ => some r
  | .setOutput r _ _ _ => some r
  | .setClockLimits r _ _ _ => some r
  | .selectClock r _ => some r
  | .relock r => some r
  | .loadWindows r _ _ => some r
  | .setPoll r _ => some r
  | .clearFlags r _ => some r
  | .mark r _ => some r
  | _ => none

/-- A POSTED record of 128 bytes that carries a chain command, with link END (11, R189). -/
def encodeRecord (i : Instr) : Option (List Byte) :=
  (encodeArgs i).map fun x =>
    linkBytes endLink ++ toLe 1 1 ++ [0, 0, 0] ++ toLe 2 x.1 ++ List.replicate 18 0 ++ x.2 ++
      List.replicate (96 - x.2.length) 0

end Sys2Proof.Machine
end

