-- ==== Sys2Proof/Machine/Tables.lean ====
section
/-! DEFINITION. Reading and writing the tables of State by number. Voices, zones, mixes, inputs, outputs
and buttons are numbered from 1, sources and buses from 0 (00_scope.md, "Identifiers"). -/

namespace Sys2Proof.Machine

/-- Entry `i` of a table, or `d` outside it. -/
def tget {α : Type} {n : Nat} (t : Vector α n) (i : Nat) (d : α) : α := t[i]?.getD d

/-- A table with entry `i` replaced; unchanged outside it. -/
def tset {α : Type} {n : Nat} (t : Vector α n) (i : Nat) (x : α) : Vector α n := t.setIfInBounds i x

/-- The list of 1..n. -/
def oneTo (n : Nat) : List Nat := (List.range n).map (· + 1)

/-- Membership of number i (from 1) in a bit set (11, R189). -/
def inSet {w : Nat} (s : BitVec w) (i : Nat) : Bool := s.getLsbD (i - 1)

/-- A bit set from a test on 1..w. -/
def setOf (w : Nat) (p : Nat → Bool) : BitVec w :=
  BitVec.ofNat w ((List.range w).foldl (fun acc i => if p (i + 1) then acc + 2 ^ i else acc) 0)

def State.bus (s : State) (b : Nat) : Bus := tget s.mx.buses b Bus.reset
def State.setBus (s : State) (b : Nat) (x : Bus) : State :=
  { s with mx := { s.mx with buses := tset s.mx.buses b x } }

def State.voice (s : State) (v : Nat) : Voice := tget s.vu.voices (v - 1) Voice.reset
def State.setVoice (s : State) (v : Nat) (x : Voice) : State :=
  { s with vu := { s.vu with voices := tset s.vu.voices (v - 1) x } }

def State.mix (s : State) (m : Nat) : Mix := tget s.fb.mixes (m - 1) Mix.reset
def State.setMix (s : State) (m : Nat) (x : Mix) : State :=
  { s with fb := { s.fb with mixes := tset s.fb.mixes (m - 1) x } }

def State.zone (s : State) (z : Nat) : Zone := tget s.rc.zones (z - 1) Zone.reset
def State.setZone (s : State) (z : Nat) (x : Zone) : State :=
  { s with rc := { s.rc with zones := tset s.rc.zones (z - 1) x } }

def State.input (s : State) (c : Nat) : Input := tget s.cu.inputs (c - 1) Input.reset
def State.setInput (s : State) (c : Nat) (x : Input) : State :=
  { s with cu := { s.cu with inputs := tset s.cu.inputs (c - 1) x } }

def State.output (s : State) (k : Nat) : Output := tget s.cu.outputs (k - 1) ⟨.off, false⟩
def State.setOutput (s : State) (k : Nat) (x : Output) : State :=
  { s with cu := { s.cu with outputs := tset s.cu.outputs (k - 1) x } }

/-- The entry of a source in a contribution list. -/
def findContrib (l : List Contrib) (source : Nat) : Option Contrib := l.find? (·.source == source)

def State.contrib (s : State) (b source : Nat) : Option Contrib := findContrib (s.bus b).list source

/-- Change the entry of a source in a list; a list without it is unchanged. -/
def mapContrib (l : List Contrib) (source : Nat) (f : Contrib → Contrib) : List Contrib :=
  l.map fun c => if c.source == source then f c else c

def State.mapContrib (s : State) (b source : Nat) (f : Contrib → Contrib) : State :=
  s.setBus b { s.bus b with list := Machine.mapContrib (s.bus b).list source f }

/-- An insertion places the new entry directly after the last entry whose source id is lower (02, R32). -/
def insertContrib (c : Contrib) : List Contrib → List Contrib
  | [] => [c]
  | x :: xs => if x.source < c.source then x :: insertContrib c xs else c :: x :: xs

/-- A bus number of a foldback mix, and back (02, R29). -/
def isFoldback (b : Nat) : Bool := 8 ≤ b && b ≤ 23
def mixOfBus (b : Nat) : Nat := b - 7
def busOfMix (m : Nat) : Nat := m + 7

end Sys2Proof.Machine
end

