-- ==== Sys2Proof/Machine/Levels.lean ====
section
/-! DEFINITION. The arithmetic of Chapter 1: reading of level and time fields, fade laws, effective
levels, gains and ramps; and the peak in points of Chapter 2. Products are exact, over Int and Nat. -/

namespace Sys2Proof.Machine

/-- A level field read, with its CLAMPED flag (01, R1). −32768 is OFF. -/
def readLevel (v : Int) : Level × Bool :=
  if v == -32768 then (off, false)
  else if v > 128 then (128, true)
  else if v ≥ -1024 then (v, false)
  else (off, true)

/-- A field of an offset or a depth: over −1024..0 (01, R1). -/
def readOffset (v : Int) : Level × Bool :=
  if v == -32768 then (off, false)
  else if v > 0 then (0, true)
  else if v ≥ -1024 then (v, false)
  else (off, true)

/-- A duration field read (01, R3). -/
def readDuration (t : Nat) : Nat × Bool :=
  if t > Config.longestDuration then (Config.longestDuration, true) else (t, false)

/-- Control periods of a fade: ceil(t × rate / 64 000) (01, R3). -/
def fadePeriods (rate t : Nat) : Nat := (t * rate + 63999) / 64000

/-- Sample periods of a delay in ms (01, R4). -/
def delaySamples (rate t : Nat) : Nat := t * rate / 1000

/-- Target of a relative request, from the current value, with its CLAMPED flag (01, R6). -/
def relativeTarget (cur delta : Int) : Level × Bool :=
  let sum := cur + delta
  if sum > 128 then (128, true)
  else if sum ≥ -1024 then (sum, false)
  else (off, true)

/-- The shaped count k′ (01, R5). -/
def shapedCount (law : Law) (k d : Nat) : Nat :=
  match law with
  | .linear => k
  | .early => k * (2 * d - k) / d
  | .late => k * k / d

/-- The level L_k of a fade (01, R5); OFF and −1024 are one value. -/
def fadeLevel (s t : Int) (d k : Nat) (law : Law) : Level :=
  s + ((t - s) * (shapedCount law k d : Int)).tdiv (d : Int)

/-- The mantissa table M[m] = round(32 768 × 2^(m/64)) (01, R11). -/
def mantissa : List Nat :=
  [32768, 33125, 33486, 33850, 34219, 34591, 34968, 35349, 35734, 36123, 36516, 36914, 37316, 37722,
   38133, 38548, 38968] ++
  [39392, 39821, 40255, 40693, 41136, 41584, 42037, 42495, 42958, 43425, 43898, 44376, 44859, 45348,
   45842, 46341] ++
  [46846, 47356, 47871, 48393, 48920, 49452, 49991, 50535, 51085, 51642, 52204, 52773, 53347, 53928,
   54515, 55109] ++
  [55709, 56316, 56929, 57549, 58176, 58809, 59449, 60097, 60751, 61413, 62081, 62757, 63441, 64132,
   64830]

/-- The gain of an effective level, 32 768 as unity (01, R11). -/
def gain (e : Int) : Int :=
  let m := mantissa.getD (e.emod 64).toNat 0
  let x := e.fdiv 64
  if x ≥ 0 then (m * 2 ^ x.toNat : Nat) else (m / 2 ^ (-x).toNat : Nat)

/-- Gain and clamp flag of a path from its terms (01, R9): silent when muted, when a term is OFF or when
the sum is −1024 or below; the sum is clamped as a whole at +128. -/
def formGain (muted : Bool) (terms : List Int) : Int × Bool :=
  if muted || terms.any (· == off) then (0, false)
  else
    let e := terms.sum
    if e > 128 then (gain 128, true)
    else if e ≤ -1024 then (0, false)
    else (gain e, false)

/-- The ramped gain of sample j of a period (01, R12). -/
def rampGain (p : Path) (j : Nat) : Int := p.gp + ((p.gn - p.gp) * ((j : Int) + 1)).tdiv 64

/-- One sample through a gain (01, R12). -/
def scale (sample g : Int) : Int := (sample * g).tdiv 32768

/-- Saturation to 24 bits (02, R37). -/
def saturate (x : Int) : Int := max (-8388608) (min 8388607 x)

/-- The path of the next period: it starts where this one ended (01, R12). -/
def Path.next (p : Path) (gn : Int) : Path := ⟨p.gn, gn⟩

/-- A peak in points: the largest L in −1023..0 with G(L) × 8 388 607 / 32 768 ≤ peak, −1024 for
silence (02, R41). The search runs down from 0. -/
def peakSearch (peak : Nat) : Nat → Int
  | 0 => -1023
  | n + 1 =>
    let l : Int := (n : Int) - 1022
    if gain l * 8388607 ≤ (peak : Int) * 32768 then l else peakSearch peak n

def peakPoints (peak : Nat) : Int := if peak == 0 then -1024 else peakSearch peak 1023

/-- The threshold of a ceiling in sample units (05, R107); −1024 has gain 0. -/
def ceilingThreshold (ceiling : Int) : Int :=
  if ceiling ≤ -1024 then 0 else (8388607 * gain ceiling).fdiv 32768

/-- The limiter step (05, R108). -/
def limiterStep (ceiling : Int) (attack release : Nat) (peak r : Int) : Int :=
  if ceiling < 0 ∧ peak > ceilingThreshold ceiling then max (r - (attack : Int)) (-480)
  else min (r + (release : Int)) 0

/-- The largest magnitude of a run of samples (02, R41, R42). -/
def peakOf (l : List Int) : Nat := l.foldl (fun m x => max m x.natAbs) 0

end Sys2Proof.Machine
end

