-- ==== Sys2Proof/Machine/Flags.lean ====
section
/-! DEFINITION. The CAUSE register and the interrupt line (10, R180), and the codes of results, reasons
and reports (11, R193, R197). -/

namespace Sys2Proof.Machine

/-- CAUSE bit numbers (10, R180). -/
def causeLost : Nat := 4
def causeChainFault : Nat := 5
def causeMemoryFault : Nat := 6
def causeClock : Nat := 7
def causeInterlock : Nat := 8
def causeStartFault : Nat := 9

/-- The ten cause bits; bits that no field names read 0 and ignore writes (10, R179, R180). -/
def causeFields : Word := 0x3FF#32

/-- Setting a cause bit; a bit already set stays set (10, R180). -/
def Ml.setCause (m : Ml) (bit : Nat) : Ml := { m with cause := m.cause ||| BitVec.twoPow 32 bit }

/-- The interrupt line is asserted while CAUSE and MASK have a set bit in common (10, R180). -/
def Ml.interruptLine (m : Ml) : Bool := (m.cause &&& m.mask) != 0

/-- Result codes (11, R193). -/
inductive Result
  | ok | unknown | range | state | reserved | full | busy | window | aborted
  deriving DecidableEq, Repr

def resultCode : Result → Nat
  | .ok => 0
  | .unknown => 1
  | .range => 2
  | .state => 3
  | .reserved => 4
  | .full => 5
  | .busy => 6
  | .window => 7
  | .aborted => 8

/-- Reasons (11, R193). -/
inductive Reason
  | none | notScheduled | busy | interlock | duplicate | absent | notLive | active | interlockInput
  deriving DecidableEq, Repr

def reasonCode : Reason → Nat
  | .none => 0
  | .notScheduled => 1
  | .busy => 2
  | .interlock => 3
  | .duplicate => 4
  | .absent => 5
  | .notLive => 6
  | .active => 7
  | .interlockInput => 8

/-- Report classes (11, R197). -/
def clsCue : Nat := 0
def clsPage : Nat := 1
def clsAudio : Nat := 2
def clsSystem : Nat := 3

/-- Report kinds within their class, from 1 (11, R197). -/
def repCueArmed : Nat := 1
def repCueGo : Nat := 2
def repCueDone : Nat := 3
def repGoIgnored : Nat := 4
def repCueOverrun : Nat := 5
def repActionSkipped : Nat := 6
def repActionDropped : Nat := 7
def repBookFault : Nat := 8
def repPageGranted : Nat := 1
def repPageOnAir : Nat := 2
def repPageEnded : Nat := 3
def repVoiceLate : Nat := 1
def repVoiceUnderrun : Nat := 2
def repVoiceEnd : Nat := 3
def repVoiceFault : Nat := 4
def repFadeSnapped : Nat := 5
def repSceneSkipped : Nat := 6
def repClockWarn : Nat := 1
def repClockChangeover : Nat := 2
def repClockRelocked : Nat := 3
def repInterlockOn : Nat := 4
def repInterlockLatched : Nat := 5
def repInterlockResumed : Nat := 6
def repInputPattern : Nat := 7
def repMark : Nat := 8
def repWindowFault : Nat := 9

/-- Named values as codes (11, R197). -/
def blockCode : Block → Nat
  | .none => 0
  | .chain => 1
  | .cue => 2
  | .voice => 3
  | .scene => 4
  | .report => 5
  | .status => 6
  | .windows => 7

def partCode : PartState → Nat
  | .stopped => 0
  | .starting => 1
  | .running => 2
  | .stopping => 3

def goSourceCode : GoSource → Nat
  | .command => 0
  | .contact => 1
  | .pattern => 2

def skipCode : Skip → Nat
  | .held => 0
  | .reserved => 1
  | .notPrimed => 2
  | .range => 3
  | .state => 4
  | .full => 5
  | .interlock => 6

def endCauseCode : EndCause → Nat
  | .finished => 0
  | .stopped => 1
  | .tornDown => 2
  | .fault => 3

def pageCauseCode : PageCause → Nat
  | .done => 0
  | .released => 1
  | .cancelled => 2
  | .expired => 3
  | .timeout => 4
  | .preempted => 5
  | .interlock => 6

def ilCode : IlState → Nat
  | .clear => 0
  | .active => 1
  | .latched => 2
  | .resuming => 3

def seqCode : SeqState → Nat
  | .empty => 0
  | .arming => 1
  | .standby => 2
  | .ended => 3
  | .faulted => 4

def clockCode : ClockState → Nat
  | .extGood => 0
  | .extWarn => 1
  | .extAcquiring => 2
  | .intFallback => 3
  | .intSelected => 4

def voiceCode : VState → Nat
  | .free => 0
  | .priming => 1
  | .primed => 2
  | .playing => 3
  | .tailing => 4
  | .paused => 5
  | .draining => 6

/-- An owner as a report detail: kind in the top byte, number in the low 24 bits (11, R197). -/
def ownerWord (kind number : Nat) : Word := BitVec.ofNat 32 (kind * 2 ^ 24 + number % 2 ^ 24)

def fadeOwnerWord : Owner → Word
  | .cue run => ownerWord 0 run
  | .host => ownerWord 1 0
  | .scene n => ownerWord 2 n
  | .relay z => ownerWord 3 z
  | .interlock => ownerWord 4 0
  | .talk => ownerWord 5 0

def voiceOwnerWord : VOwner → Word
  | .cue run => ownerWord 0 run
  | .host => ownerWord 1 0
  | .page id => ownerWord 6 id
  | .await fire => ownerWord 7 (if fire then 1 else 0)
  | .none => 0

/-- A target as a report subject: kind in the top byte, then the first and second id (11, R197). -/
def targetWord : Target → Word
  | .channel c => BitVec.ofNat 32 (c * 2 ^ 16)
  | .crosspoint b c => BitVec.ofNat 32 (1 * 2 ^ 24 + b * 2 ^ 16 + c * 2 ^ 8)
  | .master b => BitVec.ofNat 32 (2 * 2 ^ 24 + b * 2 ^ 16)
  | .zoneLevel z => BitVec.ofNat 32 (3 * 2 ^ 24 + z * 2 ^ 16)
  | .duck z => BitVec.ofNat 32 (4 * 2 ^ 24 + z * 2 ^ 16)
  | .busInterlock b => BitVec.ofNat 32 (5 * 2 ^ 24 + b * 2 ^ 16)
  | .zoneInterlock z => BitVec.ofNat 32 (6 * 2 ^ 24 + z * 2 ^ 16)
  | .dim m => BitVec.ofNat 32 (7 * 2 ^ 24 + m * 2 ^ 16)

/-- A number, and a signed number, as a 32-bit report field (11, R197). -/
def w32 (n : Nat) : Word := BitVec.ofNat 32 n
def w32i (n : Int) : Word := BitVec.ofInt 32 n

end Sys2Proof.Machine
end

