-- ==== Sys2Proof/Machine/Ops.lean ====
section
/-! DEFINITION. The operations of the memory link that every block shares: access checks and window
faults (10, R185), raising and writing reports (11, R196–R198), finishing command records (11, R189,
R192), and the chain reader's looks (11, R190). Each acts on `Ml` alone. -/

namespace Sys2Proof.Machine

/-! ### Access checks and writes -/

def Ml.window (m : Ml) (w : Nat) : Window := tget m.windows w Window.reset

/-- The check of an access of `len` bytes at a link (10, R185). -/
def Ml.allows (m : Ml) (l : Link) (len : Nat) (write : Bool) : Bool :=
  let w := m.window l.win
  decide (l.win < 16) && w.valid && decide (l.off + len - 1 ≤ w.limit) && (if write then w.wr else w.rd)

/-- A passed access goes to the bus at base + offset (10, R185). -/
def Ml.address (m : Ml) (l : Link) : Nat := (m.window l.win).base + l.off

def linkPlus (l : Link) (n : Nat) : Link := { l with off := l.off + n }

/-- Issue one write. -/
def Ml.write (m : Ml) (runs : List (Nat × List Byte)) : Ml := { m with writes := m.writes ++ [⟨runs⟩] }

/-- MEMORY_FAULT and the last fault (10, R185). -/
def Ml.recordFault (m : Ml) (l : Link) (b : Block) : Ml :=
  { m.setCause causeMemoryFault with lastFault := some ⟨l.win, l.off, b⟩ }

/-! ### Reports -/

/-- One report of a class is lost (11, R198). -/
def Ml.lose (m : Ml) (cls : Nat) : Ml :=
  { m.setCause causeLost with lost := tset m.lost cls (min (tget m.lost cls 0 + 1) (2 ^ 32 - 1)) }

/-- Every report in the queue is lost (11, R196, R198). -/
def Ml.loseQueue (m : Ml) : Ml := { m.queue.foldl (fun m r => m.lose r.cls) m with queue := [] }

/-- Is a head-slot link read outstanding? -/
def Ml.headReadOut (m : Ml) : Bool := m.slots.any (·.use == .reportHead)

/-- The 32 bytes of a report with link END, less bytes 10–11, which are not written (11, R197). -/
def reportRuns (addr : Nat) (r : Report) : List (Nat × List Byte) :=
  [(addr, linkBytes endLink ++ toLe 1 r.cls ++ toLe 1 r.kind),
   (addr + 12, toLe 4 r.subject.toNat ++ toLe 8 r.stamp ++ toLe 4 r.d1.toNat ++ toLe 4 r.d2.toNat)]

/-- The cause enables of the root block (10, R182). -/
def Ml.enables (m : Ml) : BitVec 8 := match m.setup with | some c => c.enables | none => 0

/-- The front report meets a known next link `n` (11, R196): both writes are checked before either is
made; a fault loses the report, with block REPORT and no WINDOW_FAULT (11, R198). A refused head slot is the
fault recorded, and the anchor is then not judged (10, R185; log 46). -/
def Ml.takeSlot (m : Ml) (n : Link) (r : Report) : Ml :=
  let h := m.freeHead.getD endLink
  let a := m.anchor.getD endLink
  if !m.allows h 32 true then (m.recordFault h .report).lose r.cls
  else if !m.allows a 8 true then (m.recordFault a .report).lose r.cls
  else
    let m := (m.write (reportRuns (m.address h) r)).write [(m.address a, linkBytes h)]
    let m := { m with anchor := some h, freeHead := some n, nextLink := .unknown, headWanted := true }
    if m.enables.getLsbD r.cls then m.setCause r.cls else m

/-- The report writer serves its queue by the next link (11, R196), at most `fuel` reports. -/
def Ml.serve : Nat → Ml → Ml
  | 0, m => m
  | fuel + 1, m =>
    match m.queue with
    | [] => m
    | r :: rest =>
      match m.nextLink with
      | .known n => Ml.serve fuel (({ m with queue := rest }).takeSlot n r)
      | _ => if m.headReadOut then m else { m with headWanted := true }

/-- A report joins the queue and the queue is served (11, R196); a full queue loses it (11, R198). -/
def Ml.enqueue (m : Ml) (r : Report) : Ml :=
  if m.queue.length ≥ Config.reportCapacity then m.lose r.cls
  else ({ m with queue := m.queue ++ [r] }).serve (Config.reportCapacity + 1)

/-- A report raised by a block. In STOPPING none is posted for what STOPPING ends (10, R188). -/
def Ml.post (m : Ml) (r : Report) : Ml := if m.part != .running then m else m.enqueue r

/-- A window fault of any block but REPORT: recorded, and WINDOW_FAULT posted, in STOPPING too
(10, R185; 11, R197, R199; log 50). -/
def Ml.windowFault (m : Ml) (now : Nat) (l : Link) (b : Block) : Ml :=
  (m.recordFault l b).enqueue ⟨clsSystem, repWindowFault, w32 (blockCode b), w32 l.win, w32 l.off, now⟩

/-! ### The chain reader's looks and the in-flight table -/

/-- In WAITING with the flag set, the reader clears the flag and begins a look (11, R190). -/
def Ml.beginLook (m : Ml) : Ml :=
  if m.part == .running && m.reader == .waiting && m.lookOwed then
    { m with reader := .looking, lookOwed := false }
  else m

/-- A look is owed (11, R190). -/
def Ml.oweLook (m : Ml) : Ml := ({ m with lookOwed := true }).beginLook

/-- The reader enters WAITING; a look still owed begins (11, R190, R191). -/
def Ml.toWaiting (m : Ml) : Ml := ({ m with reader := .waiting }).beginLook

/-- A slot of the in-flight table has been freed: BLOCKED returns to WAITING with a look owed (11, R192). -/
def Ml.slotFreed (m : Ml) : Ml :=
  if m.reader == .blocked && decide (m.inflight.length < Config.inflightCapacity) then
    ({ m with reader := .waiting }).oweLook
  else m

/-- The two writes of a finish, checked at issue (11, R189, R192): result code, reason, flags and stamp,
then the state, 3 DONE or 4 FAILED. -/
def Ml.finishRecord (m : Ml) (now : Nat) (r : Link) (res : Result) (why : Reason) (clamped : Bool) : Ml :=
  if !m.allows (linkPlus r 9) 15 true then m.windowFault now (linkPlus r 9) .chain
  else if !m.allows (linkPlus r 8) 1 true then m.windowFault now (linkPlus r 8) .chain
  else
    let a := m.address r
    (m.write [(a + 9, toLe 1 (resultCode res) ++ toLe 1 (reasonCode why) ++ toLe 1 (if clamped then 1 else 0)),
              (a + 16, toLe 8 now)]).write
      [(a + 8, toLe 1 (if res = .ok then 3 else 4))]

/-- Every command in flight that waits on `j` finishes, and its slot is freed (11, R192). -/
def Ml.finishJob (m : Ml) (now : Nat) (j : Job) (res : Result) (clamped : Bool) : Ml :=
  let done := m.inflight.filter (·.job == j)
  let m := { m with inflight := m.inflight.filter (fun e => !(e.job == j)) }
  let m := done.foldl (fun m e => m.finishRecord now e.r res .none (e.clamped || clamped)) m
  if done.isEmpty then m else m.slotFreed

/-- A command takes a slot of the in-flight table (11, R192). -/
def Ml.hold (m : Ml) (r : Link) (kind : Nat) (j : Job) (clamped : Bool) : Ml :=
  { m with inflight := m.inflight ++ [⟨r, kind, j, clamped⟩] }

/-! ### The same, on State -/

/-- Is the part RUNNING? -/
def State.running (s : State) : Bool := s.ml.part == .running

/-- Raise a report stamped with the show clock (11, R196). -/
def State.report (s : State) (cls kind : Nat) (subject d1 d2 : Word) : State :=
  { s with ml := s.ml.post ⟨cls, kind, subject, d1, d2, s.ck.now⟩ }

def State.windowFault (s : State) (l : Link) (b : Block) : State :=
  { s with ml := s.ml.windowFault s.ck.now l b }

/-- Finish the record of a command (11, R189). -/
def State.finish (s : State) (r : Link) (res : Result) (why : Reason := .none) (clamped : Bool := false) :
    State :=
  { s with ml := s.ml.finishRecord s.ck.now r res why clamped }

def State.finishJob (s : State) (j : Job) (res : Result) (clamped : Bool := false) : State :=
  { s with ml := s.ml.finishJob s.ck.now j res clamped }

def State.hold (s : State) (r : Link) (kind : Nat) (j : Job) (clamped : Bool := false) : State :=
  { s with ml := s.ml.hold r kind j clamped }

def State.setCause (s : State) (bit : Nat) : State := { s with ml := s.ml.setCause bit }

/-- Raise a notice to another block, acted on after the operation in hand (log 22). -/
def State.tell (s : State) (n : Notice) : State := { s with notices := s.notices ++ [n] }

/-- The freeze condition (04, R96). -/
def State.frozen (s : State) : Bool := s.ce.hold || s.il.st == .active || s.il.st == .latched

/-- While ACTIVE or LATCHED (07, R149). -/
def State.interlocked (s : State) : Bool := s.il.st == .active || s.il.st == .latched

/-- Free the first read slot in use for `u` (10, R187). -/
def Ml.freeSlot (m : Ml) (u : ReadUse) : Ml := { m with slots := m.slots.eraseP (·.use == u) }

/-- The block a bus error on a read is recorded under (10, R185). The reads of a start name no window, and the
requester of an orphan is forgotten: theirs sets MEMORY_FAULT only (log 38). -/
def useBlock : ReadUse → Option Block
  | .root | .startTable | .orphan => none
  | .loadWindows _ _ => some .windows
  | .reportHead => some .report
  | .chainLink | .chainRecord _ => some .chain
  | .arming _ _ => some .cue
  | .scene _ => some .scene
  | .fetch _ => some .voice

/-- A read returns whose data is discarded: its slot is free, and a bus error is a window fault of its access
all the same (10, R180, R185; log 38). -/
def Ml.dropRead (m : Ml) (now : Nat) (u : ReadUse) (d : ReadData) : Ml :=
  match d, m.slots.find? (·.use == u) with
  | .busError, some o =>
    match useBlock u with
    | none => (m.freeSlot u).setCause causeMemoryFault
    | some .report => (m.freeSlot u).recordFault o.link .report
    | some b => (m.freeSlot u).windowFault now o.link b
  | _, _ => m.freeSlot u

def State.dropRead (s : State) (u : ReadUse) (d : ReadData) : State :=
  { s with ml := s.ml.dropRead s.ck.now u d }

def Ml.isOut (m : Ml) (u : ReadUse) : Bool := m.slots.any (·.use == u)

end Sys2Proof.Machine
end

