-- ==== Sys2Proof/Machine/Operands.lean ====
section
/-! DEFINITION. Reading the fields of commands, cue actions and records: laws, targets, source ranges,
sample descriptors. -/

namespace Sys2Proof.Machine

/-- A command or action refused at its checks. -/
structure Fail where
  res : Result
  why : Reason := .none
  clamped : Bool := false
  deriving DecidableEq, Repr

/-- Finish a record by what its command came to: DONE with its CLAMPED flag, or FAILED with nothing
changed (11, R193). -/
def State.answer (s : State) (r : Link) : Except Fail (State × Bool) → State
  | .ok (t, clamped) => t.finish r .ok .none clamped
  | .error f => s.finish r f.res f.why f.clamped

/-- Law codes (04, R78). -/
def lawOf : Nat → Option Law
  | 0 => some .linear
  | 1 => some .early
  | 2 => some .late
  | _ => none

/-- The source ids a bus accepts in its list (02, R31). -/
def busAccepts (b source : Nat) : Bool :=
  if b < 8 then source ≤ 122
  else if b < 24 then source ≤ 121
  else b == 24 && (source ≤ 122 || (128 ≤ source && source ≤ 135))

/-- The target a command or cue action names, when its ids are in range (01, R22). The offset targets and
unknown kinds are refused like an id out of range. -/
def targetOf (t : TargetField) : Option Target :=
  match t.kind with
  | 0 => if t.id1 ≤ 122 then some (.channel t.id1) else none
  | 1 => if busAccepts t.id1 t.id2 then some (.crosspoint t.id1 t.id2) else none
  | 2 => if t.id1 ≤ 24 then some (.master t.id1) else none
  | 3 => if 1 ≤ t.id1 ∧ t.id1 ≤ 32 then some (.zoneLevel t.id1) else none
  | _ => none

/-- The checks of 01, R22: an id out of range, then a source that is not in the list. -/
def State.checkTarget (s : State) (t : TargetField) : Except Fail Target :=
  match targetOf t with
  | none => .error { res := .range }
  | some (.crosspoint b c) =>
    if (s.contrib b c).isSome then .ok (.crosspoint b c) else .error { res := .state }
  | some x => .ok x

/-- A sample descriptor as the VU accepts it, with its CLAMPED flag (03, R51). -/
def descOf (d : DescField) : Option (Desc × Bool) :=
  if d.frames = 0 ∨ d.win > 15 ∨ d.mode > 2 then none
  else if d.mode = 0 then some (⟨d.win, d.off, d.frames, d.loopStart, d.loopEnd, .once⟩, false)
  else if ¬ (d.loopStart < d.loopEnd ∧ d.loopEnd ≤ d.frames) then none
  else if d.mode = 1 then some (⟨d.win, d.off, d.frames, d.loopStart, d.loopEnd, .loop⟩, false)
  else some (⟨d.win, d.off, d.frames, d.loopStart, d.loopEnd, .loopN (max d.count 1)⟩, d.count == 0)

end Sys2Proof.Machine
end

