-- ==== Sys2Proof/Machine/LevelUnit.lean ====
section
/-! DEFINITION. The level unit: the level store, the fade table and its operations (01, R7, R13–R21), and
the three level commands (01, R22–R26). -/

namespace Sys2Proof.Machine

/-! ### The level store -/

/-- The value of a target in the level store (01, R2). -/
def State.levelOf (s : State) : Target → Level
  | .channel c => tget s.lv.channel c off
  | .crosspoint b c => match s.contrib b c with | some x => x.level | none => off
  | .master b => tget s.lv.master b 0
  | .zoneLevel z => tget s.lv.zoneLevel (z - 1) 0
  | .duck z => tget s.lv.duck (z - 1) 0
  | .busInterlock b => tget s.lv.busInterlock b 0
  | .zoneInterlock z => tget s.lv.zoneInterlock (z - 1) 0
  | .dim m => tget s.lv.dim (m - 1) 0

/-- Write a value into the store. −1024 is OFF (01, R1). -/
def State.putLevel (s : State) (t : Target) (v : Level) : State :=
  match t with
  | .channel c => { s with lv := { s.lv with channel := tset s.lv.channel c v } }
  | .crosspoint b c => s.mapContrib b c fun x => { x with level := v }
  | .master b => { s with lv := { s.lv with master := tset s.lv.master b v } }
  | .zoneLevel z => { s with lv := { s.lv with zoneLevel := tset s.lv.zoneLevel (z - 1) v } }
  | .duck z => { s with lv := { s.lv with duck := tset s.lv.duck (z - 1) v } }
  | .busInterlock b => { s with lv := { s.lv with busInterlock := tset s.lv.busInterlock b v } }
  | .zoneInterlock z => { s with lv := { s.lv with zoneInterlock := tset s.lv.zoneInterlock (z - 1) v } }
  | .dim m => { s with lv := { s.lv with dim := tset s.lv.dim (m - 1) v } }

/-! ### The fade table -/

/-- The entry on a target (01, R13). -/
def State.fadeOn (s : State) (t : Target) : Option Fade := s.lv.fades.find? (·.target == t)

/-- The table without any entry on `t`. -/
def withoutFade (l : List Fade) (t : Target) : List Fade := l.filter fun f => !(f.target == t)

def State.setFades (s : State) (l : List Fade) : State := { s with lv := { s.lv with fades := l } }

/-- Remove the entry on a target, with a notice to its owner's block (01, R15). -/
def State.dropFade (s : State) (t : Target) (c : FadeCause) : State :=
  match s.fadeOn t with
  | none => s
  | some f => (s.setFades (withoutFade s.lv.fades t)).tell (.fade f.owner t c)

/-- A LEAVING contribution becomes PRESENT again (02, R34). -/
def State.revive (s : State) : Target → State
  | .crosspoint b c => s.mapContrib b c fun x => { x with leaving := false }
  | _ => s

/-- A contribution is deleted from its list: its place and its crosspoint level go, any fade on it is
removed with TARGET_GONE, and its sound goes on in a tail (02, R35; 01, R20). -/
def State.deleteContrib (s : State) (b source : Nat) : State :=
  match s.contrib b source with
  | none => s
  | some x =>
    let u := s.bus b
    (s.setBus b { u with list := u.list.filter (fun y => !(y.source == source)),
                         tails := u.tails ++ [⟨source, x.path, false⟩] }).dropFade
      (.crosspoint b source) .targetGone

/-- The completion action (01, R19). -/
def State.completion (s : State) (t : Target) (remove : Bool) : State :=
  match remove, t with
  | true, .crosspoint b c => s.deleteContrib b c
  | _, _ => s

/-- An instant set: the value stands at once, an entry on the target is taken over, and a LEAVING
contribution becomes PRESENT (01, R7). -/
def State.setInstant (s : State) (t : Target) (v : Level) : State :=
  ((s.dropFade t .takenOver).putLevel t v).revive t

def isCueOwner : Owner → Bool
  | .cue _ => true
  | _ => false

/-- A fade request finds the table full: the target is snapped (01, R17). -/
def State.snap (s : State) (t : Target) (v : Level) (o : Owner) (remove : Bool) : State :=
  let s := s.putLevel t v
  let s := if remove then s.completion t true else s.revive t
  (s.tell (.fade o t .completed)).report clsAudio repFadeSnapped (targetWord t) (fadeOwnerWord o) (w32i v)

/-- A fade request is entered, taking over any entry on the target (01, R16). -/
def State.enterFade (s : State) (t : Target) (v : Level) (ms : Nat) (law : Law) (o : Owner)
    (remove : Bool) : State :=
  let s := s.dropFade t .takenOver
  let f : Fade := ⟨t, o, s.levelOf t, v, fadePeriods s.ck.rate ms, 0, law, remove, isCueOwner o && s.frozen⟩
  let s := s.setFades (s.lv.fades ++ [f])
  if remove then s else s.revive t

/-- A fade request of 1 ms or more: entered, or snapped on a full table (01, R16, R17). -/
def State.fadeTo (s : State) (t : Target) (v : Level) (ms : Nat) (law : Law) (o : Owner)
    (remove : Bool := false) : State :=
  if (s.fadeOn t).isNone ∧ s.lv.fades.length ≥ Config.fadeCapacity then s.snap t v o remove
  else s.enterFade t v ms law o remove

/-- A fade request of any duration; 0 ms asks for an instant set (01, R3, R7). -/
def State.fadeOrSet (s : State) (t : Target) (v : Level) (ms : Nat) (law : Law) (o : Owner) : State :=
  if ms = 0 then s.setInstant t v else s.fadeTo t v ms law o

/-- The end of a fade at its last step: T stands, the entry leaves the table, its completion action is
carried out and its owner is told COMPLETED (01, R18). -/
def State.completeFade (s : State) (f : Fade) : State :=
  let s := s.putLevel f.target f.t
  let s := s.setFades (withoutFade s.lv.fades f.target)
  let s := s.completion f.target f.remove
  s.tell (.fade f.owner f.target .completed)

/-- One step of an unfrozen entry: k rises by 1 (01, R18). -/
def bumpFade (f : Fade) : Fade := if f.frozen then f else { f with k := f.k + 1 }

/-- Write L_k of an unfrozen entry into the store (01, R18). -/
def State.writeFade (s : State) (f : Fade) : State :=
  if f.frozen then s else s.putLevel f.target (fadeLevel f.s f.t f.d f.k f.law)

/-- The fade step event of a control period (01, R18). -/
def State.stepFades (s : State) : State :=
  let fades := s.lv.fades.map bumpFade
  let s := s.setFades fades
  let s := fades.foldl (fun s f => s.writeFade f) s
  (fades.filter fun f => !f.frozen && decide (f.d ≤ f.k)).foldl (fun s f => s.completeFade f) s

/-- The freeze condition freezes or frees every CUE-owned entry (01, R21). -/
def State.markFrozen (s : State) (b : Bool) : State :=
  s.setFades (s.lv.fades.map fun f => if isCueOwner f.owner then { f with frozen := b } else f)

/-! ### Level requests of commands and cue actions -/

/-- T of a set or fade, absolute or relative (01, R1, R6). -/
def State.fixTarget (s : State) (t : Target) (mode : Nat) (v : Int) : Level × Bool :=
  if mode = 0 then readLevel v else relativeTarget (s.levelOf t) v

/-- SET_LEVEL as command or cue action (01, R22, R23). -/
def State.applySetLevel (s : State) (tf : TargetField) (mode : Nat) (v : Int) :
    Except Fail (State × Bool) :=
  if mode > 1 then .error { res := .range }
  else do
    let t ← s.checkTarget tf
    let (x, clamped) := s.fixTarget t mode v
    .ok (s.setInstant t x, clamped)

/-- FADE as command or cue action (01, R22, R24). -/
def State.applyFade (s : State) (tf : TargetField) (mode : Nat) (v : Int) (dur law : Nat) (o : Owner) :
    Except Fail (State × Bool) :=
  match lawOf law with
  | none => .error { res := .range }
  | some lw =>
    if mode > 1 then .error { res := .range }
    else do
      let t ← s.checkTarget tf
      let (x, c1) := s.fixTarget t mode v
      let (ms, c2) := readDuration dur
      .ok (s.fadeOrSet t x ms lw o, c1 || c2)

/-- STOP_FADE (01, R22, R25): the entry goes where it stands; a LEAVING contribution whose remove-fade is
stopped becomes PRESENT. -/
def State.applyStopFade (s : State) (tf : TargetField) : Except Fail (State × Bool) := do
  let t ← s.checkTarget tf
  match s.fadeOn t with
  | none => .ok (s, false)
  | some f =>
    let s := s.dropFade t .stopped
    .ok (if f.remove then s.revive t else s, false)

end Sys2Proof.Machine
end

