-- ==== Sys2Proof/Machine/MixMatrix.lean ====
section
/-! DEFINITION. The mix matrix: requests on contributions (02, R46–R48), and the two halves of a control
period, the computation of the period that has ended (02, R37–R42; 06, R125) and the formation of the
one that begins (01, R8–R12; 06, R124). -/

namespace Sys2Proof.Machine

/-! ### Contributions -/

/-- The tap a request stores: PRE on a foldback bus alone; elsewhere POST, with CLAMPED (02, R33). -/
def tapFor (b tap : Nat) : Bool × Bool :=
  if tap = 1 then (if isFoldback b then (true, false) else (false, true)) else (false, false)

/-- Insert a PRESENT entry with a path that starts from silence (02, R32, R35). -/
def State.insertEntry (s : State) (b source : Nat) (level : Level) (pre : Bool) : State :=
  let u := s.bus b
  s.setBus b { u with list := insertContrib ⟨source, level, pre, false, Path.zero⟩ u.list }

/-- SET_CONTRIB as command or cue action (02, R46). -/
def State.applySetContrib (s : State) (b source : Nat) (v : Int) (tap dur law : Nat) (o : Owner) :
    Except Fail (State × Bool) :=
  match lawOf law with
  | none => .error { res := .range }
  | some lw =>
    if b > 24 ∨ !busAccepts b source ∨ tap > 1 then .error { res := .range }
    else
      let (pre, c1) := tapFor b tap
      let (level, c2) := readLevel v
      let (ms, c3) := readDuration dur
      let clamped := c1 || c2 || c3
      match s.contrib b source with
      | some _ =>
        let s := s.mapContrib b source fun x => { x with pre := pre }
        .ok (s.fadeOrSet (.crosspoint b source) level ms lw o, clamped)
      | none =>
        if (s.bus b).list.length ≥ Config.listCapacity then .error { res := .full, clamped := clamped }
        else if ms = 0 then .ok (s.insertEntry b source level pre, clamped)
        else .ok ((s.insertEntry b source off pre).fadeTo (.crosspoint b source) level ms lw o, clamped)

/-- Mark an entry LEAVING and fade it to OFF with the removal as completion action (02, R34, R47). -/
def State.leave (s : State) (b source ms : Nat) (law : Law) (o : Owner) : State :=
  (s.mapContrib b source fun x => { x with leaving := true }).fadeTo (.crosspoint b source) off ms law o true

/-- REMOVE_CONTRIB as command or cue action (02, R47). The entry is looked for before the duration is read, so
that a refusal FAILED_STATE carries no CLAMPED (log 16). -/
def State.applyRemoveContrib (s : State) (b source dur law : Nat) (o : Owner) :
    Except Fail (State × Bool) :=
  match lawOf law with
  | none => .error { res := .range }
  | some lw =>
    if b > 24 ∨ !busAccepts b source then .error { res := .range }
    else if (s.contrib b source).isNone then .error { res := .state }
    else
      let (ms, clamped) := readDuration dur
      if ms = 0 then .ok (s.deleteContrib b source, clamped)
      else .ok (s.leave b source ms lw o, clamped)

/-! ### The computation of a period -/

/-- Sample of a source in one frame (02, R27). -/
def frameSample (f : Frame) (source : Nat) : Int :=
  if source < 56 then f.inputs.getD source 0
  else if source < 120 then tget f.voices (source - 56) 0
  else f.inputs.getD (source - 64) 0

/-- The 64 samples of a source for the period; a bus source is the house bus's output of the period
before (02, R27, R38). -/
def State.sourceSamples (s : State) (frames : List Frame) (source : Nat) : List Int :=
  if source ≥ 128 then (s.bus (source - 128)).out else frames.map fun f => frameSample f source

/-- The products of a path, sample by sample (02, R37). -/
def products (samples : List Int) (p : Path) : List Int :=
  (List.range 64).map fun j => scale (samples.getD j 0) (rampGain p j)

/-- The paths of a bus with their sources: list entries, tails, and the talkback path (02, R37). -/
def State.paths (s : State) (b : Nat) : List (Nat × Path) :=
  let u := s.bus b
  u.list.map (fun x => (x.source, x.path)) ++ u.tails.map (fun x => (x.source, x.path)) ++
    (if isFoldback b then [(122, tget s.mx.talkPaths (b - 8) Path.zero)] else [])

/-- The exact sums of a bus (02, R37). -/
def State.busSums (s : State) (frames : List Frame) (b : Nat) : List Int :=
  (s.paths b).foldl (fun acc p => List.zipWith (· + ·) acc (products (s.sourceSamples frames p.1) p.2)) silence

/-- A bus after the computation of a period: output, clip count, peak accumulation (02, R37, R39, R41). -/
def closeBus (u : Bus) (sums : List Int) : Bus :=
  let out := sums.map saturate
  { u with out := out,
           clip := if sums.all (fun x => saturate x == x) then u.clip else min (u.clip + 1) 65535,
           peak := max u.peak (peakOf out) }

/-- The limiter step of every mix, on the period peaks (05, R108), while RUNNING (05, R109). -/
def State.limiterSteps (s : State) : State :=
  if !s.running then s
  else
    let r := Vector.ofFn fun (m : Fin 16) =>
      let x := s.mix (m.val + 1)
      limiterStep x.ceiling x.attack x.release (peakOf (s.bus (m.val + 8)).out) (tget s.lv.reduction m.val 0)
    { s with lv := { s.lv with reduction := r } }

/-- Page audio of a page for the period: its voice, and its microphone if the gate was open at the start
(06, R125). -/
def pageAudio (p : Page) (frames : List Frame) : List Int :=
  frames.map fun f =>
    let voice := ((f.pages.find? (·.1 == p.arrival)).map (·.2)).getD 0
    let mic := if p.live && p.gateAtStart then f.inputs.getD (55 + p.mic) 0 else 0
    saturate (voice + mic)

/-- The computation of the period whose samples are `frames`: every bus from the outputs of the period
before, then the limiters and the page audio (02, R37–R42; 06, R125). -/
def State.computePeriod (s : State) (frames : List Frame) : State :=
  let buses := Vector.ofFn fun (b : Fin 25) => closeBus (s.bus b.val) (s.busSums frames b.val)
  let s := ({ s with mx := { s.mx with buses := buses } }).limiterSteps
  { s with rc := { s.rc with pages := s.rc.pages.map fun p => { p with audio := pageAudio p frames } } }

/-! ### The formation of a period -/

/-- The terms of the effective level of a contribution (01, R9). -/
def State.terms (s : State) (b : Nat) (x : Contrib) : List Int :=
  let channel := if x.source ≥ 128 || (isFoldback b && x.pre) then [] else [tget s.lv.channel x.source off]
  let interlock := if b < 24 && x.source != 122 then [tget s.lv.busInterlock b 0] else []
  let foldback :=
    if isFoldback b then
      (if x.source != 122 then [tget s.lv.dim (b - 8) 0] else []) ++ [tget s.lv.reduction (b - 8) 0]
    else []
  channel ++ [x.level, tget s.lv.master b 0] ++ interlock ++ foldback

/-- Is a source silenced by its mute? A bus source has none (01, R9; 02, R27). -/
def State.sourceMuted (s : State) (source : Nat) : Bool :=
  if source ≥ 128 then false else tget s.mx.mute source false

/-- The terms of a talkback path (02, R36). -/
def State.talkTerms (s : State) (m : Nat) : List Int :=
  [tget s.lv.channel 122 off, (s.mix m).talkLevel, tget s.lv.master (busOfMix m) 0,
    tget s.lv.reduction (m - 1) 0]

/-- Gain of a talkback path; shut, it is silent (02, R36). -/
def State.talkGain (s : State) (m : Nat) : Int × Bool :=
  formGain (!(s.mix m).gate || s.sourceMuted 122 || (s.bus (busOfMix m)).mute) (s.talkTerms m)

/-- Gain of a contribution (01, R9, R11). -/
def State.contribGain (s : State) (b : Nat) (x : Contrib) : Int × Bool :=
  formGain (s.sourceMuted x.source || (s.bus b).mute) (s.terms b x)

/-- The paths of a bus formed anew; every G_n is 0 in the closing period (01, R12; 02, R35, R43). The clamp
flag is set by a path that was clamped (02, R40), in the closing period by none (log 25). -/
def State.formBus (s : State) (closing : Bool) (b : Nat) : Bus :=
  let u := s.bus b
  let talkClamp := isFoldback b && !closing && (s.talkGain (mixOfBus b)).2
  { u with
    list := u.list.map fun x => { x with path := x.path.next (if closing then 0 else (s.contribGain b x).1) },
    tails := (u.tails.filter fun t => !t.falling).map fun t => { t with path := t.path.next 0, falling := true },
    clamp := u.clamp || talkClamp || (!closing && u.list.any fun x => (s.contribGain b x).2) }

/-- The ON_AIR page that holds a zone, if any (01, R10). -/
def State.holderPage (s : State) (z : Zone) : Option Page :=
  match z.holder with
  | none => none
  | some id => s.rc.pages.find? (·.id == id)

/-- Gain of a zone's programme path (01, R10). -/
def State.programmeGain (s : State) (n : Nat) (z : Zone) : Int :=
  (formGain (!z.programme)
    [tget s.lv.zoneLevel n 0, tget s.lv.duck n 0, tget s.lv.zoneInterlock n 0]).1

/-- Gain of a zone's page path (01, R10). -/
def State.pageGain (s : State) (z : Zone) : Int :=
  match s.holderPage z with
  | some p => (formGain (p.st != .onAir) [z.pageLevel]).1
  | none => 0

/-- The output of a zone for the period that begins (06, R124). -/
def zoneOutput (relay audio : List Int) (prog page : Path) : List Int :=
  (List.range 64).map fun j =>
    saturate (scale (relay.getD j 0) (rampGain prog j) + scale (audio.getD j 0) (rampGain page j))

/-- A zone formed for the period that begins; what it computed for the last one is now sent (06, R124). -/
def State.formZone (s : State) (closing : Bool) (n : Nat) : Zone :=
  let z := tget s.rc.zones n Zone.reset
  let prog := z.progPath.next (if closing then 0 else s.programmeGain n z)
  let page := z.pagePath.next (if closing then 0 else s.pageGain z)
  let audio := match s.holderPage z with | some p => p.audio | none => silence
  { z with progPath := prog, pagePath := page, sent := z.out, out := zoneOutput (s.bus 24).out audio prog page }

/-- Gain formation of the period that begins, and its zone outputs (01, R8, R12; 06, R124). -/
def State.formPeriod (s : State) (closing : Bool) : State :=
  let buses := Vector.ofFn fun (b : Fin 25) => s.formBus closing b.val
  let talk := Vector.ofFn fun (m : Fin 16) =>
    (tget s.mx.talkPaths m.val Path.zero).next (if closing then 0 else (s.talkGain (m.val + 1)).1)
  let zones := Vector.ofFn fun (n : Fin 32) => s.formZone closing n.val
  { s with
    mx := { s.mx with buses := buses, talkPaths := talk },
    rc := { s.rc with zones := zones, pages := s.rc.pages.map fun p => { p with gateAtStart := p.gate } } }

/-! ### Output lines -/

/-- An output slot carries zero while a silent period is named for this sample (09, R175). -/
def Ck.silent (c : Ck) : Bool :=
  let hit := fun (b : Option Nat) => match b with | some b => decide (b ≤ c.now ∧ c.now < b + 64) | none => false
  hit c.silentNow || hit c.silentNext

/-- What an output slot carries at the present sample, once the control period that begins there has been
taken. Zones leave by slots 24–55 and bus 24, RF, by slot 56 (02, R38, R43), not by the slot of its number
(02, R29; log 40). -/
def State.outputSlot (s : State) (slot : Nat) : Int :=
  if !(s.ml.part == .running || s.ml.part == .stopping) || s.ck.silent then 0
  else
    let j := s.ck.now % 64
    if slot < 24 then (s.bus slot).out.getD j 0
    else if slot < 56 then (s.zone (slot - 23)).sent.getD j 0
    else if slot = 56 then (s.bus 24).out.getD j 0
    else 0

end Sys2Proof.Machine
end

