-- ==== Sys2Proof/Machine/VoicePath.lean ====
section
/-! DEFINITION. One voice by itself: its playing path (03, R52), blocks (03, R53), envelope (03, R61), the
frame it supplies (03, R58, R63), the release of its loop (03, R64) and its pauses (03, R67). -/

namespace Sys2Proof.Machine

/-! ### The playing path -/

/-- The loop count left at the start of a descriptor: `some 0` when no arrival jumps (03, R52). -/
def loopInit : LoopMode → Option Nat
  | .once => some 0
  | .loop => none
  | .loopN n => some n

/-- The descriptor a position lies in. -/
def descOfPos (d1 d2 : Option Desc) (p : Pos) : Option Desc := if p.second then d2 else d1

/-- A position that has passed the end of its descriptor's path: the second descriptor begins at frame 0,
or the path is done (03, R52). -/
def endPart (d2 : Option Desc) (p : Pos) : Pos :=
  match p.second, d2 with
  | false, some e => ⟨true, 0, loopInit e.mode, p.idx, false⟩
  | _, _ => { p with done := true }

/-- The position one frame on (03, R52). -/
def nextPos (d1 d2 : Option Desc) (p : Pos) : Pos :=
  match p.done, descOfPos d1 d2 p with
  | false, some d =>
    let f := p.frame + 1
    let q : Pos := { p with idx := p.idx + 1 }
    let q : Pos :=
      if f = d.loopEnd ∧ p.left ≠ some 0 then
        match p.left with
        | none => { q with frame := d.loopStart }
        | some n => if n > 1 then { q with frame := d.loopStart, left := some (n - 1) }
                    else { q with frame := f, left := some 0 }
      else { q with frame := f }
    if q.frame ≥ d.frames then endPart d2 q else q
  | _, _ => p

def advance (d1 d2 : Option Desc) : Nat → Pos → Pos
  | 0, p => p
  | n + 1, p => advance d1 d2 n (nextPos d1 d2 p)

/-- The start of a voice's path (03, R59). -/
def startPos (d : Desc) : Pos := ⟨false, 0, loopInit d.mode, 0, false⟩

/-- Does the path jump at the next arrival at the loop end from here? -/
def jumps (p : Pos) : Bool := match p.left with | none => true | some n => decide (n > 1)

/-- The length of the block that begins at a position (03, R53). -/
def runLength (d : Desc) (p : Pos) : Nat :=
  let stop := if jumps p ∧ p.frame < d.loopEnd then d.loopEnd else d.frames
  min Config.blockFrames (stop - p.frame)

/-! ### The buffer -/

/-- The word of path index `i`, if the buffer holds it. -/
def heldWord (blocks : List SampleBlock) (i : Nat) : Option Word :=
  match blocks.find? fun b => decide (b.idx ≤ i ∧ i < b.idx + b.words.length) with
  | some b => b.words[i - b.idx]?
  | none => none

/-- A block is freed as soon as the play position has passed its last frame (03, R53). -/
def freePassed (blocks : List SampleBlock) (i : Nat) : List SampleBlock :=
  blocks.filter fun b => decide (i < b.idx + b.words.length)

/-- The low 24 bits of a word hold the signed sample (03, R51). -/
def frameValue (w : Word) : Int := (w.extractLsb' 0 24).toInt

/-- The words of a returned block. -/
def wordsOf (n : Nat) (bytes : List Byte) : List Word :=
  (List.range n).map fun i => BitVec.ofNat 32 (fieldAt bytes (4 * i) 4)

/-- The position from which the walker reads: the fetch position, or the play position if that is ahead
(03, R55, R58). -/
def Voice.readPos (x : Voice) : Pos := if x.fpos.idx < x.pos.idx then x.pos else x.fpos

/-- Eligible for a fetch (03, R55). -/
def Voice.eligible (x : Voice) : Bool :=
  (x.st == .priming || x.st == .primed || x.st == .playing || x.st == .tailing || x.st == .paused) &&
    decide (x.blocks.length < Config.blockCapacity) && x.fetch.isNone && !x.readPos.done

/-- The whole prime is held: two blocks, or the whole path (03, R56). -/
def Voice.primeHeld (x : Voice) : Bool :=
  decide (2 ≤ x.blocks.length) || (x.fpos.done && x.fetch.isNone)

/-! ### The envelope -/

/-- The envelope value at the next sample of a ramp (03, R61). -/
def rampValue (r : Ramp) : Int := r.v0 + ((r.v1 - r.v0) * ((r.i : Int) + 1)).tdiv 64

/-- One sample of the envelope: its value, and the ramp that goes on. -/
def stepEnvelope (env : Int) : Option Ramp → Int × Option Ramp
  | none => (env, none)
  | some r => (rampValue r, if r.i ≥ 63 then none else some { r with i := r.i + 1 })

def Voice.rampTo (x : Voice) (v : Int) : Voice := { x with ramp := some ⟨x.env, v, 0⟩ }

/-- In a cut ramp, or with one just done (03, R62). -/
def Voice.inCut (x : Voice) : Bool := x.stop == .cut

/-- The voice plays: PLAYING or TAILING. -/
def Voice.playing (x : Voice) : Bool := x.st == .playing || x.st == .tailing

/-! ### Supplying a frame -/

/-- What one sample of a voice brings. -/
structure Supply where
  voice : Voice
  out : Int
  underrun : Option Nat
  partEnded : Bool

/-- The voice supplies the frame at its play position, scaled by its envelope, and advances whether or not
the frame is held (03, R52, R58, R61, R63). Past the end of its path it supplies zero and a ramp runs on
(log 19). An underrun episode ends with the first frame held again, in a pause's down-ramp too, and begins only
while the voice is PLAYING or TAILING (03, R58, R67; log 39). -/
def Voice.supply (x : Voice) : Supply :=
  if x.pos.done then
    let (env, ramp) := stepEnvelope x.env x.ramp
    ⟨{ x with env := env, ramp := ramp }, 0, none, false⟩
  else
    let held := heldWord x.blocks x.pos.idx
    let (env, ramp) := stepEnvelope x.env x.ramp
    let out := match held with | some w => scale (frameValue w) env | none => 0
    let episode := x.playing && held.isNone && !x.inUnderrun
    let pos := nextPos x.desc x.desc2 x.pos
    { voice :=
        { x with
          env := env, ramp := ramp, pos := pos, blocks := freePassed x.blocks pos.idx,
          inUnderrun := held.isNone && (x.playing || x.inUnderrun),
          underruns := if episode then min (x.underruns + 1) 65535 else x.underruns,
          underrunReported := x.underrunReported || episode,
          tail := if x.st == .tailing && !x.inCut then x.tail - 1 else x.tail },
      out := out,
      underrun := if episode && !x.underrunReported then some x.pos.frame else none,
      partEnded := !x.pos.second && pos.second }

/-- Does the voice supply frames at this sample: PLAYING, TAILING, or PAUSED in its down-ramp (03, R50)? -/
def Voice.sounds (x : Voice) : Bool := x.playing || (x.st == .paused && x.ramp.isSome)

/-! ### Stops and pauses -/

/-- A cut ramp: the envelope goes to 0 and the stop mode becomes CUT (03, R62). -/
def Voice.cutRamp (x : Voice) : Voice := { x.rampTo 0 with stop := .cut }

/-- The loop of the descriptor the play position is in is left at the next arrival at its end; what lies on
the old path beyond it is discarded (03, R64). A voice whose path does not jump at that arrival any more has no
old path, and keeps its buffer and its fetch position (log 53). -/
def Voice.leaveLoop (x : Voice) : Voice :=
  match descOfPos x.desc x.desc2 x.pos with
  | none => x
  | some d =>
    if !jumps x.pos || decide (d.loopEnd ≤ x.pos.frame) then x
    else
      let arrival := x.pos.idx + (d.loopEnd - x.pos.frame)
      let pos : Pos := { x.pos with left := some 1 }
      let final : Pos := { pos with frame := d.loopEnd, left := some 0, idx := arrival }
      let final := if d.loopEnd ≥ d.frames then endPart x.desc2 final else final
      { x with
        pos := pos,
        fpos := if arrival ≤ x.fpos.idx then final else { x.fpos with left := some 1 },
        blocks := x.blocks.filter fun b => decide (b.idx < arrival),
        fetch := x.fetch.map fun f => if arrival ≤ f.idx then { f with discard := true } else f }

/-- The pause condition becomes true for a voice (03, R67). -/
def Voice.pause (x : Voice) : Voice :=
  if x.playing && !x.inCut then
    { x.rampTo 0 with st := .paused, priorTailing := x.st == .tailing }
  else x

/-- The pause condition ends for a voice: a PAUSED voice under CUT does not return (03, R67). -/
def Voice.unpause (x : Voice) : Voice :=
  if x.st == .paused && !x.inCut then
    { x.rampTo 32768 with st := if x.priorTailing then .tailing else .playing }
  else x

end Sys2Proof.Machine
end

