-- ==== Sys2Proof/Machine/VoiceUnit.lean ====
section
/-! DEFINITION. The voice unit: start requests (03, R59, R69), starts (03, R60), stops (03, R62), DRAINING
and FREE (03, R66), faults (03, R57), the pause condition (03, R67), the fetch walker (03, R54, R55) and
the sample period of the voices. -/

namespace Sys2Proof.Machine

/-- Scheduled: the table is empty or names the voice (03, R54). -/
def State.scheduled (s : State) (v : Nat) : Bool := s.vu.table.isEmpty || s.vu.table.contains v

def State.reserved (s : State) (v : Nat) : Bool := inSet s.vu.reserve v

/-- Available to the RC: reserved, FREE and scheduled (03, R68). -/
def State.available (s : State) (v : Nat) : Bool :=
  s.reserved v && s.scheduled v && (s.voice v).st == .free

/-- The pause condition of an owner (03, R67). -/
def State.pauseHolds (s : State) : VOwner → Bool
  | .cue _ => s.frozen
  | .await _ => s.frozen
  | .host => s.interlocked
  | _ => false

/-! ### Start requests -/

/-- A start request is made: the voice is PRIMING from the start of its path (03, R59). -/
def State.makeStart (s : State) (v : Nat) (q : StartReq) : State :=
  s.setVoice v
    { Voice.reset with
      st := .priming, owner := q.owner, desc := some q.desc, desc2 := q.desc2, start := q.start,
      startFrom := s.ck.now + 1, pos := startPos q.desc, fpos := startPos q.desc }

/-- A start request of the host or a cue: made on a FREE voice, held on a DRAINING one without a waiting
start, else refused (03, R59). The flag says that it is held. -/
def State.requestStart (s : State) (v : Nat) (q : StartReq) : Except Fail (State × Bool) :=
  let x := s.voice v
  if s.reserved v then .error { res := .reserved }
  else if !s.scheduled v then .error { res := .state, why := .notScheduled }
  else if x.st = .free then .ok (s.makeStart v q, false)
  else if x.st = .draining ∧ x.waiting = none then .ok (s.setVoice v { x with waiting := some q }, true)
  else .error { res := .state, why := .busy }

/-- Set the start field of a voice; frame 0 cannot come before the next sample (03, R59, R60). -/
def State.setStart (s : State) (v : Nat) (st : VStart) : State :=
  s.setVoice v { s.voice v with start := st, startFrom := s.ck.now + 1, late := false }

/-- A voice becomes PRIMED. It will start late if its due sample was reached while it was PRIMING
(03, R56, R60). -/
def State.becomePrimed (s : State) (v : Nat) : State :=
  let x := s.voice v
  let late := match x.start with | .at d => decide (d ≤ s.ck.now) | _ => false
  let s := s.setVoice v { x with st := .primed, startFrom := s.ck.now + 1, late := late }
  match x.owner with
  | .await fire => s.tell (.primed v fire)
  | _ => s

/-! ### Ends -/

/-- A waiting start held in flight is made (03, R59). -/
def State.unholdStart (s : State) (v : Nat) : State :=
  let take (e : InFlight) : InFlight :=
    if e.job == .startVoice v true then { e with job := .startVoice v false } else e
  { s with ml := { s.ml with inflight := s.ml.inflight.map take } }

/-- A voice becomes FREE: VOICE_END, its owner is notified, its record is reset, a waiting start is made
(03, R66); a reserved voice is then available (03, R68). -/
def State.freeVoice (s : State) (v : Nat) : State :=
  let x := s.voice v
  let s := s.report clsAudio repVoiceEnd (w32 v) (w32 (endCauseCode x.endCause)) (w32 x.underruns)
  let s := s.finishJob (.startVoice v false) .aborted
  let s := s.finishJob (.teardown v) .ok
  let s := match x.owner with | .page id => s.tell (.pageVoiceEnded id v x.endCause) | _ => s
  let s := s.setVoice v Voice.reset
  match x.waiting with
  | some q => (s.makeStart v q).unholdStart v
  | none => if s.available v then s.tell .scan else s

/-- A voice enters DRAINING: it supplies zero, its start becomes NOT_YET and its buffer is emptied; with no
fetch outstanding it is FREE at once (03, R66). A cue prime lost before PRIMED has failed (03, R69). -/
def State.drain (s : State) (v : Nat) (c : EndCause) : State :=
  let x := s.voice v
  let s := s.setVoice v
    { x with st := .draining, start := .notYet, blocks := [], ramp := none, late := false, endCause := c }
  let s := match x.st, x.owner with
    | .priming, .await fire => s.tell (.primeLost v fire)
    | _, _ => s
  if x.fetch.isNone then s.freeVoice v else s

/-- A voice fetch is a window fault (03, R57; 10, R185). On a voice already DRAINING, VOICE_FAULT is posted and
a host START_VOICE finishes FAILED_WINDOW all the same, and its end cause stays (03, R57, R71; log 41). -/
def State.voiceFault (s : State) (v : Nat) (l : Link) (frame : Nat) : State :=
  let s := s.windowFault l .voice
  let s := s.report clsAudio repVoiceFault (w32 v) (w32 l.win) (w32 frame)
  let s := s.finishJob (.startVoice v false) .window
  if (s.voice v).st = .draining then
    (if (s.voice v).fetch.isNone then s.freeVoice v else s)
  else s.drain v .fault

/-! ### Stops -/

/-- Stop modes of a request (03, R62). -/
inductive StopReq
  | cut
  | after (n : Nat)
  | release
  deriving DecidableEq, Repr

/-- Mode codes of STOP_VOICE (04, R78). -/
def stopOf (mode frames : Nat) : Option StopReq :=
  match mode with
  | 0 => some .cut
  | 1 => some (if frames = 0 then .cut else .after frames)
  | 2 => some .release
  | _ => none

/-- A stop request, by the state of the voice (03, R62). -/
def State.stopVoice (s : State) (v : Nat) (q : StopReq) : State :=
  let x := s.voice v
  match x.st with
  | .free | .draining => s
  | .priming | .primed => s.drain v .stopped
  | .playing | .tailing =>
    if x.inCut then s
    else
      match q with
      | .cut => s.setVoice v x.cutRamp
      | .after n =>
        s.setVoice v { x with st := .tailing, stop := .after,
                              tail := if x.st = .tailing then min x.tail n else n }
      | .release => s.setVoice v { x.leaveLoop with stop := .release }
  | .paused =>
    match q with
    | .release => s.setVoice v (if x.inCut then x.leaveLoop else { x.leaveLoop with stop := .release })
    | _ =>
      let s := s.setVoice v { x with stop := .cut }
      if x.ramp.isNone then s.drain v .stopped else s

/-- A cue prime is released, if the voice is still PRIMING or PRIMED with the owner its prime gave it; any
other voice is left alone (03, R69). -/
def State.releasePrime (s : State) (v : Nat) (o : VOwner) : State :=
  let x := s.voice v
  if (x.st = .priming ∨ x.st = .primed) ∧ x.owner = o then s.stopVoice v .cut else s

/-! ### Pauses -/

/-- Every voice follows its pause condition (03, R67). -/
def State.repause (s : State) : State :=
  let follow (x : Voice) : Voice := if s.pauseHolds x.owner then x.pause else x.unpause
  { s with vu := { s.vu with voices := s.vu.voices.map follow } }

/-! ### Supplying samples -/

/-- One sample of voice `v`: what it supplies, with the reports and notices that brings (03, R58, R68). -/
def State.supplyVoice (s : State) (v : Nat) : State × Int :=
  let x := s.voice v
  let r := x.supply
  let s := s.setVoice v r.voice
  let s := match r.underrun with
    | some f => s.report clsAudio repVoiceUnderrun (w32 v) (w32 f) (voiceOwnerWord x.owner)
    | none => s
  let s := match r.partEnded, x.owner with
    | true, .page id => s.tell (.pagePartEnded id v)
    | _, _ => s
  (s, r.out)

/-- The voices' outputs for the present sample; in STOPPING every voice supplies zero (03, R50, R75). -/
def State.tickVoices (s : State) : State × List Int :=
  (oneTo 64).foldl (fun acc v =>
    if acc.1.running && (acc.1.voice v).sounds then
      let r := acc.1.supplyVoice v
      (r.1, acc.2 ++ [r.2])
    else (acc.1, acc.2 ++ [0])) (s, [])

/-- A voice's start permits at this sample (03, R60). -/
def State.startDue (s : State) (v : Nat) : Bool :=
  let x := s.voice v
  x.st == .primed && decide (x.startFrom ≤ s.ck.now) &&
    (match x.start with
     | .notYet => false
     | .whenPrimed => true
     | .at d => decide (d ≤ s.ck.now))

/-- The output of a voice that starts in the present sample joins that sample's frame, in place of the zero
that stands there for it and for its page (03, R60; 06, R125, R136). -/
def addToFrame (frames : List Frame) (v : Nat) (out : Int) (page : Option Nat) : List Frame :=
  match frames.getLast? with
  | none => frames
  | some f =>
    frames.dropLast ++
      [{ f with
        voices := tset f.voices (v - 1) out,
        pages := match page with
          | some a => (f.pages.filter fun e => !(e.1 == a)) ++ [(a, out)]
          | none => f.pages }]

/-- The arrival number of the page a voice belongs to. -/
def State.pageOfVoice (s : State) (v : Nat) : Option Nat :=
  (s.rc.pages.find? fun p => p.voice == some v).map (·.arrival)

/-- Frame 0: the voice becomes PLAYING and supplies it, or PAUSED if its pause condition holds; VOICE_LATE,
the host record and the page's notice follow (03, R60). The cue engine is told by the caller. -/
def State.beginVoice (s : State) (v : Nat) : State :=
  let x := s.voice v
  let s := match x.late, x.start with
    | true, .at d => s.report clsAudio repVoiceLate (w32 v) (w32 (s.ck.now - d)) (voiceOwnerWord x.owner)
    | _, _ => s
  let y := { x with start := .notYet, late := false, underrunReported := false, inUnderrun := false,
                    priorTailing := false }
  let s :=
    if s.pauseHolds x.owner then s.setVoice v { y with st := .paused, env := 0, ramp := none }
    else
      let r := (s.setVoice v { y with st := .playing, env := 32768, ramp := none }).supplyVoice v
      { r.1 with mx := { r.1.mx with frames := addToFrame r.1.mx.frames v r.2 (s.pageOfVoice v) } }
  let s := s.finishJob (.startVoice v false) .ok
  match x.owner with | .page id => s.tell (.pageStarted id v) | _ => s

/-! ### The fetch walker -/

/-- The list the walker goes round: the table, or 1–64 (03, R54). -/
def State.walkList (s : State) : List Nat := if s.vu.table.isEmpty then oneTo 64 else s.vu.table

/-- The place of the first eligible entry, examining from the index onward and wrapping once (03, R55). -/
def State.walkerPick (s : State) : Option Nat :=
  let l := s.walkList
  ((List.range l.length).map fun i => (s.vu.index + i) % l.length).find? fun i =>
    (s.voice (l.getD i 0)).eligible

/-- The walker, granted a slot: it reads the next block of the first eligible voice and moves its index on,
or returns the slot unused (03, R55, R58). -/
def State.walkerServe (s : State) : State :=
  match s.walkerPick with
  | none => s
  | some i =>
    let v := s.walkList.getD i 0
    let x := s.voice v
    let s := { s with vu := { s.vu with index := (i + 1) % s.walkList.length } }
    let p := x.readPos
    match descOfPos x.desc x.desc2 p with
    | none => s
    | some d =>
      let n := runLength d p
      let l : Link := ⟨d.win, d.off + 4 * p.frame⟩
      let x := { x with fpos := p, blocks := freePassed x.blocks x.pos.idx }
      if s.ml.allows l (4 * n) false then
        let s := s.setVoice v { x with fpos := advance x.desc x.desc2 n p,
                                       fetch := some ⟨p.idx, p.second, p.frame, n, false⟩ }
        { s with ml := { s.ml with slots := s.ml.slots ++ [⟨.fetch v, s.ml.address l, 4 * n, l⟩] } }
      else (s.setVoice v x).voiceFault v l p.frame

/-- A fetch has returned with data: the block is placed, or discarded (03, R56). -/
def State.placeBlock (s : State) (v : Nat) (f : Fetch) (bytes : List Byte) : State :=
  let x := { s.voice v with fetch := none }
  if x.st = .draining then (s.setVoice v x).freeVoice v
  else if f.discard ∨ f.idx + f.len ≤ x.pos.idx then s.setVoice v x
  else
    let x := { x with blocks := x.blocks ++ [⟨f.idx, wordsOf f.len bytes⟩] }
    let s := s.setVoice v x
    if x.st = .priming ∧ x.primeHeld then s.becomePrimed v else s

/-- A fetch returns in STOPPING: its data is discarded (03, R75), and a DRAINING voice becomes FREE (03, R66),
of which no block takes notice any more (06, R148). -/
def State.stoppingFetch (s : State) (v : Nat) (d : ReadData) : State :=
  let x := { s.voice v with fetch := none }
  let s := (s.dropRead (.fetch v) d).setVoice v x
  if x.st = .draining then { s.freeVoice v with notices := s.notices } else s

/-- A fetch returns (03, R56, R57). -/
def State.fetchReturn (s : State) (v : Nat) (d : ReadData) : State :=
  let x := s.voice v
  match x.fetch with
  | none => s.dropRead (.fetch v) d
  | some f =>
    if !s.running then s.stoppingFetch v d
    else
      let s := { s with ml := s.ml.freeSlot (.fetch v) }
      match d with
      | .data bytes => s.placeBlock v f bytes
      | .busError =>
        match (if f.second then x.desc2 else x.desc) with
        | none => s.setVoice v { x with fetch := none }
        | some e => (s.setVoice v { x with fetch := none }).voiceFault v ⟨e.win, e.off + 4 * f.frame⟩ f.frame

/-! ### Commands on voices -/

/-- Is the voice owned by a page (03, R68)? -/
def State.pageOwned (s : State) (v : Nat) : Bool :=
  match (s.voice v).owner with | .page _ => true | _ => false

def voiceNumber (v : Nat) : Bool := decide (1 ≤ v ∧ v ≤ 64)

/-- STOP_VOICE as command or cue action (03, R71). -/
def State.applyStopVoice (s : State) (v mode frames : Nat) : Except Fail (State × Bool) :=
  match stopOf mode frames with
  | none => .error { res := .range }
  | some q =>
    if !voiceNumber v then .error { res := .range }
    else if s.pageOwned v then .error { res := .reserved }
    else .ok (s.stopVoice v q, false)

/-- TEARDOWN_VOICE on a voice that is not FREE (03, R72): the caller has put the record in flight. -/
def State.teardown (s : State) (v : Nat) : State :=
  let x := s.voice v
  if x.st = .draining then
    let s := s.setVoice v { x with waiting := none, endCause := .tornDown }
    match x.waiting with
    | none => s
    | some q =>
      match q.owner with
      | .await fire => s.tell (.primeLost v fire)
      | _ => s.finishJob (.startVoice v true) .aborted
  else s.drain v .tornDown

end Sys2Proof.Machine
end

