-- ==== Sys2Proof/Machine/Foldback.lean ====
section
/-! DEFINITION. The foldback controller: hold (05, R104, R105), talk and dim (05, R110–R113), scene recalls
(05, R114–R120), and its commands (05, R121, R122). -/

namespace Sys2Proof.Machine

/-- Is the named bus a foldback mix that is HELD (05, R104)? -/
def State.heldBus (s : State) (b : Nat) : Bool := isFoldback b && (s.mix (mixOfBus b)).held

/-! ### Talk -/

/-- Talk is on (05, R110). -/
def Fb.talk (f : Fb) : Bool := f.talkCmd || f.talkFn

/-- A mix starts talking: its DIM fades to the dim depth over 50 ms and its gate opens (05, R111). -/
def State.talkStart (s : State) (m : Nat) : State :=
  let x := s.mix m
  (s.setMix m { x with talking := true, gate := true }).fadeTo (.dim m) x.dimDepth 50 .linear .talk

/-- A mix stops talking: its DIM fades to 0 over 200 ms and its gate shuts (05, R112). -/
def State.talkEnd (s : State) (m : Nat) : State :=
  (s.setMix m { s.mix m with talking := false, gate := false }).fadeTo (.dim m) 0 200 .linear .talk

/-- A mix is talking while talk is on and it is IN the talk set (05, R111). -/
def State.followTalk (s : State) (m : Nat) : State :=
  let x := s.mix m
  match s.fb.talk && x.inSet, x.talking with
  | true, false => s.talkStart m
  | false, true => s.talkEnd m
  | _, _ => s

/-- Every mix follows talk, in ascending mix number (05, R110–R112; log 43). -/
def State.followTalkAll (s : State) : State := (oneTo 16).foldl State.followTalk s

/-- The talk function state, as the contact unit reports it (05, R110). -/
def State.setTalkFn (s : State) (on : Bool) : State :=
  ({ s with fb := { s.fb with talkFn := on } }).followTalkAll

/-- TALK (05, R122): 0 ON, 1 OFF. -/
def State.applyTalk (s : State) (value : Nat) : Except Fail (State × Bool) :=
  if value > 1 then .error { res := .range }
  else .ok (({ s with fb := { s.fb with talkCmd := value == 0 } }).followTalkAll, false)

/-! ### SET_FOLDBACK -/

/-- A clamped field, or the value kept for LEAVE. -/
def readOr {α β : Type} (f : Option α) (old : β) (read : α → β × Bool) : β × Bool :=
  match f with
  | some v => read v
  | none => (old, false)

/-- Attack and release are taken within 1–64 (05, R121). -/
def readStep (v : Nat) : Nat × Bool :=
  if v > 64 then (64, true) else if v = 0 then (1, true) else (v, false)

/-- An enumerated field with two values, or LEAVE. -/
def twoValued : Option Nat → Bool
  | some v => decide (v ≤ 1)
  | none => true

/-- The mix record with the fields of SET_FOLDBACK written, and whether one was clamped (05, R121). -/
def writeMix (x : Mix) (f : FoldbackField) : Mix × Bool :=
  let ceiling := readOr f.ceiling x.ceiling readOffset
  let attack := readOr f.attack x.attack readStep
  let release := readOr f.release x.release readStep
  let talk := readOr f.talkLevel x.talkLevel readLevel
  let dim := readOr f.dim x.dimDepth readOffset
  ({ x with held := match f.hold with | some h => h == 0 | none => x.held,
            ceiling := ceiling.1, attack := attack.1, release := release.1, talkLevel := talk.1,
            dimDepth := dim.1, inSet := match f.member with | some v => v == 0 | none => x.inSet },
   ceiling.2 || attack.2 || release.2 || talk.2 || dim.2)

/-- SET_FOLDBACK (05, R121, R113): hold 0 HOLD, 1 FREE; membership 0 IN, 1 OUT. -/
def State.applySetFoldback (s : State) (m : Nat) (f : FoldbackField) : Except Fail (State × Bool) :=
  if ¬ (1 ≤ m ∧ m ≤ 16) ∨ !twoValued f.hold ∨ !twoValued f.member then .error { res := .range }
  else
    let x := s.mix m
    let w := writeMix x f
    let s := s.setMix m w.1
    let s :=
      if x.talking ∧ w.1.inSet then
        (if w.1.dimDepth = x.dimDepth then s else s.fadeTo (.dim m) w.1.dimDepth 50 .linear .talk)
      else s.followTalk m
    .ok (s, w.2)

/-! ### Scene recalls: acceptance and end -/

inductive SceneReason
  | held | range | window | full
  deriving DecidableEq, Repr

def sceneReasonCode : SceneReason → Nat
  | .held => 0
  | .range => 1
  | .window => 2
  | .full => 3

def State.sceneSkipped (s : State) (mix scene : Nat) (why : SceneReason) : State :=
  s.report clsAudio repSceneSkipped (w32 mix) (w32 scene) (w32 (sceneReasonCode why))

/-- A recall is accepted or refused (05, R116). -/
def State.acceptRecall (s : State) (r : Option Link) (l : Link) (dur law : Nat) :
    Except SceneReason (State × Nat × Bool) :=
  match lawOf law with
  | none => .error .range
  | some lw =>
    if l.win > 15 then .error .range
    else if s.fb.recalls.length ≥ Config.recallCapacity then .error .full
    else
      let (ms, clamped) := readDuration dur
      let n := (s.fb.recallCounter + 1) % 2 ^ 32
      let q : Recall := ⟨n, r, l, ms, lw, .header, 0, 0, 0, [], clamped⟩
      .ok ({ s with fb := { s.fb with recallCounter := n, recalls := s.fb.recalls ++ [q] } }, n, clamped)

/-- RECALL_SCENE as a command (05, R116). -/
def State.commandRecall (s : State) (r l : Link) (dur law : Nat) : State :=
  match s.acceptRecall (some r) l dur law with
  | .ok (t, n, clamped) => t.hold r 21 (.scene n) clamped
  | .error .full => s.finish r .full .none (readDuration dur).2
  | .error _ => s.finish r .range

/-- RECALL_SCENE as a cue action (05, R116). -/
def State.actionRecall (s : State) (l : Link) (dur law : Nat) : State :=
  match s.acceptRecall none l dur law with
  | .ok (t, _, _) => t
  | .error why => s.sceneSkipped 0 0 why

def State.recallOf (s : State) (n : Nat) : Option Recall := s.fb.recalls.find? (·.number == n)

def State.setRecall (s : State) (q : Recall) : State :=
  { s with fb := { s.fb with recalls := s.fb.recalls.map fun x => if x.number == q.number then q else x } }

def State.dropRecall (s : State) (n : Nat) : State :=
  { s with fb := { s.fb with recalls := s.fb.recalls.filter fun x => !(x.number == n) } }

/-- A recall ends with nothing applied (05, R115, R120). -/
def State.sceneFault (s : State) (q : Recall) (why : SceneReason) : State :=
  ((s.dropRecall q.number).sceneSkipped 0 q.scene why).finishJob (.scene q.number)
    (if why = .window then .window else .range) q.clamped

/-! ### Scene recalls: application -/

/-- Entries in ascending source order. -/
def insertEntryBySource (e : SceneEntry) : List SceneEntry → List SceneEntry
  | [] => [e]
  | x :: xs => if x.source ≤ e.source then x :: insertEntryBySource e xs else e :: x :: xs

def sortEntries (l : List SceneEntry) : List SceneEntry := l.foldr insertEntryBySource []

/-- `x` is deleted before `y` (05, R118): entries LEAVING before the recall first, then lower level, then
lower source id. -/
def deletedBefore (before : List Nat) (x y : Contrib) : Bool :=
  let g := fun c : Contrib => if before.contains c.source then 0 else 1
  if g x ≠ g y then decide (g x < g y)
  else if x.level ≠ y.level then decide (x.level < y.level)
  else decide (x.source < y.source)

/-- The LEAVING entry that capacity removal takes next (05, R118). -/
def nextRemoval (before : List Nat) (l : List Contrib) : Option Contrib :=
  (l.filter (·.leaving)).foldl (fun best c =>
    match best with
    | none => some c
    | some b => if deletedBefore before c b then some c else some b) none

/-- Capacity removal: LEAVING entries are deleted until `n` more fit (05, R118). -/
def State.makeRoom (before : List Nat) (b n : Nat) : Nat → State → State
  | 0, s => s
  | fuel + 1, s =>
    if (s.bus b).list.length + n ≤ Config.listCapacity then s
    else
      match nextRemoval before (s.bus b).list with
      | none => s
      | some c => State.makeRoom before b n fuel (s.deleteContrib b c.source)

/-- A listed source that the list holds (05, R117 step 2). -/
def State.recallHeld (s : State) (q : Recall) (b : Nat) (e : SceneEntry) : State :=
  (s.mapContrib b e.source fun c => { c with pre := e.pre }).fadeOrSet (.crosspoint b e.source) e.level q.dur
    q.law (.scene q.number)

/-- An unlisted PRESENT entry (05, R117 step 3, R119). -/
def State.recallLeave (s : State) (q : Recall) (b source : Nat) : State :=
  if q.dur = 0 then s.deleteContrib b source else s.leave b source q.dur q.law (.scene q.number)

/-- A new source (05, R117 step 5, R119). -/
def State.recallInsert (s : State) (q : Recall) (b : Nat) (e : SceneEntry) : State :=
  if q.dur = 0 then s.insertEntry b e.source e.level e.pre
  else (s.insertEntry b e.source off e.pre).fadeTo (.crosspoint b e.source) e.level q.dur q.law
    (.scene q.number)

/-- A recall is applied to one mix (05, R117–R119). -/
def State.applyMix (q : Recall) (s : State) (k : MixBlock) : State :=
  if (s.mix k.mix).held then s.sceneSkipped k.mix q.scene .held
  else
    let b := busOfMix k.mix
    let listed := sortEntries k.entries
    let before := ((s.bus b).list.filter (·.leaving)).map (·.source)
    let held := listed.filter fun e => (s.contrib b e.source).isSome
    let new := listed.filter fun e => (s.contrib b e.source).isNone
    let unlisted := ((s.bus b).list.filter fun c =>
      !c.leaving && !(listed.any (·.source == c.source))).map (·.source)
    let s := s.fadeOrSet (.master b) k.master q.dur q.law (.scene q.number)
    let s := held.foldl (fun s e => s.recallHeld q b e) s
    let s := unlisted.foldl (fun s c => s.recallLeave q b c) s
    let s := State.makeRoom before b new.length Config.listCapacity s
    new.foldl (fun s e => s.recallInsert q b e) s

/-- The last read of a recall has completed: the recall is applied in record order and ends
(05, R117, R120). -/
def State.applyRecall (s : State) (q : Recall) : State :=
  ((q.mixes.foldl (State.applyMix q) s).dropRecall q.number).finishJob (.scene q.number) .ok q.clamped

/-! ### Scene recalls: reading -/

/-- Length of the next read of a recall (05, R114). -/
def Recall.want (q : Recall) : Nat :=
  match q.step with
  | .header => 8
  | .mixHeader => 8
  | .entries _ n _ => 4 * n

/-- The link of the next read of a recall (05, R114). -/
def Recall.place (q : Recall) : Link := linkPlus q.link q.pos

/-- Entry `i` of an entries read, with its CLAMPED flag and whether it is in range (05, R114, R115). -/
def entryAt (bytes : List Byte) (i : Nat) : SceneEntry × Bool × Bool :=
  let source := fieldAt bytes (4 * i) 1
  let tap := fieldAt bytes (4 * i + 1) 1
  let (level, clamped) := readLevel (levelAt bytes (4 * i + 2))
  (⟨source, tap == 1, level⟩, clamped, decide (source ≤ 121 ∧ tap ≤ 1))

/-- Is no source named twice? -/
def distinctSources : List SceneEntry → Bool
  | [] => true
  | e :: es => !(es.any (·.source == e.source)) && distinctSources es

/-- A mix block has been read whole: the next block, or the application. -/
def State.blockRead (s : State) (q : Recall) (k : MixBlock) : State :=
  let q := { q with mixes := q.mixes ++ [k], left := q.left - 1, step := .mixHeader }
  if q.left = 0 then s.applyRecall q else s.setRecall q

/-- A read of a recall has returned with data; one with a fault sets no CLAMPED (05, R114, R115; log 36). -/
def State.sceneData (s : State) (q : Recall) (bytes : List Byte) : State :=
  match q.step with
  | .header =>
    let q := { q with scene := fieldAt bytes 0 4, left := fieldAt bytes 4 1, pos := 8, step := .mixHeader }
    if q.left > 16 then s.sceneFault q .range
    else if q.left = 0 then s.applyRecall q
    else s.setRecall q
  | .mixHeader =>
    let mix := fieldAt bytes 0 1
    let n := fieldAt bytes 1 1
    let (master, c) := readLevel (levelAt bytes 2)
    if ¬ (1 ≤ mix ∧ mix ≤ 16) ∨ (q.mixes.any (·.mix == mix)) = true ∨ n > 48 then s.sceneFault q .range
    else
      let q := { q with pos := q.pos + 8, clamped := q.clamped || c }
      if n = 0 then s.blockRead q ⟨mix, master, []⟩
      else s.setRecall { q with step := .entries mix n master }
  | .entries mix n master =>
    let es := (List.range n).map (entryAt bytes)
    if !(es.all (·.2.2)) ∨ !distinctSources (es.map (·.1)) then s.sceneFault q .range
    else
      s.blockRead { q with pos := q.pos + 4 * n, clamped := q.clamped || es.any (·.2.1) }
        ⟨mix, master, es.map (·.1)⟩

/-- A scene read returns; one whose recall is gone brings no data (05, R115, R120). A bus error is a window
fault of the same access (10, R185; log 38). -/
def State.sceneReturn (s : State) (n : Nat) (d : ReadData) : State :=
  if !s.ml.isOut (.scene n) then s
  else
    match s.recallOf n with
    | none => s.dropRead (.scene n) d
    | some q =>
      if !s.running then s.dropRead (.scene n) d
      else
        let s := { s with ml := s.ml.freeSlot (.scene n) }
        match d with
        | .data bytes => s.sceneData q bytes
        | .busError => (s.windowFault q.place .scene).sceneFault q .window

end Sys2Proof.Machine
end

