-- ==== Sys2Proof/Machine/Relay.lean ====
section
/-! DEFINITION. The relay controller: page requests (06, R126–R129), the zone arbiter (06, R130–R132),
ducks (06, R133, R134), going on air (06, R135–R137), page ends (06, R138–R142), the ON_AIR group set
(06, R143), page buttons (06, R144, R145) and its commands (06, R146, R147). -/

namespace Sys2Proof.Machine

/-! ### Zones and pages -/

def State.page (s : State) (id : Nat) : Option Page := s.rc.pages.find? (·.id == id)

def State.setPage (s : State) (p : Page) : State :=
  { s with rc := { s.rc with pages := s.rc.pages.map fun q => if q.id == p.id then p else q } }

def State.dropPage (s : State) (id : Nat) : State :=
  { s with rc := { s.rc with pages := s.rc.pages.filter fun q => !(q.id == id) } }

def State.setHolder (s : State) (z : Nat) (h : Option Nat) : State :=
  s.setZone z { s.zone z with holder := h }

def State.setDuckFade (s : State) (z : Nat) (f : DuckFade) : State :=
  s.setZone z { s.zone z with duckFade := f }

/-- The zones a page holds (06, R128). -/
def State.heldZones (s : State) (id : Nat) : List Nat := (oneTo 32).filter fun z => (s.zone z).holder == some id

def zoneSet (l : List Nat) : BitVec 32 := setOf 32 fun z => l.contains z

def State.setMic (s : State) (m : Nat) (id : Option Nat) : State :=
  { s with rc := { s.rc with mics := tset s.rc.mics (m - 1) id } }

def State.micFree (s : State) (m : Nat) : Bool := (tget s.rc.mics (m - 1) none).isNone

/-- The set of groups with a zone held by an ON_AIR page (06, R143). -/
def State.onAirGroups (s : State) : BitVec 8 :=
  ((oneTo 32).filter fun z =>
    match s.holderPage (s.zone z) with
    | some p => p.st == .onAir
    | none => false).foldl (fun g z => g ||| (s.zone z).groups) 0

/-- The RC recomputes the ON_AIR group set and hands it over (06, R143). -/
def State.handOnAir (s : State) : State := { s with rc := { s.rc with onAir := s.onAirGroups } }

/-! ### Ducks -/

/-- What the zone's duck fade is after a fade request: the kind entered, or NONE after a snap
(06, R133, R138). -/
def State.afterDuck (s : State) (z : Nat) (f : DuckFade) : State :=
  s.setDuckFade z (if (s.fadeOn (.duck z)).isSome then f else .none)

/-- A zone is ducked (06, R133). -/
def State.duckZone (s : State) (z : Nat) : State :=
  let x := s.zone z
  if !x.programme then s
  else if s.levelOf (.duck z) = x.depth ∨ x.attack = 0 then
    (s.setInstant (.duck z) x.depth).setDuckFade z .none
  else (s.fadeTo (.duck z) x.depth x.attack .linear (.relay z)).afterDuck z .attack

/-- The DUCK of a freed zone returns toward 0 (06, R138). -/
def State.releaseZone (s : State) (z : Nat) : State :=
  let x := s.zone z
  if s.levelOf (.duck z) = 0 ∧ x.duckFade = .none then s
  else if x.release = 0 then (s.setInstant (.duck z) 0).setDuckFade z .none
  else (s.fadeTo (.duck z) 0 x.release .linear (.relay z)).afterDuck z .release

/-! ### Going on air -/

/-- The sample at which a LIVE page's length limit runs out (06, R135, R137). -/
def State.lengthEnd (s : State) (p : Page) : Nat := s.ck.now + p.liveLimit * s.ck.rate

/-- PAGE_ON_AIR, and the ON_AIR group set (06, R135, R143). -/
def State.postOnAir (s : State) (p : Page) : State :=
  (s.report clsPage repPageOnAir (w32 p.id) ((zoneSet (s.heldZones p.id)).setWidth 32)
    (w32 p.priority)).handOnAir

/-- A page leaving ATTACK, or a LIVE page that lost its chime in CHIME (06, R135, R136). -/
def State.goOnAir (s : State) (p : Page) : State :=
  match p.voice with
  | some v => (s.setPage { p with st := .chime }).setStart v .whenPrimed
  | none =>
    (s.setPage { p with st := .onAir, gate := true, lengthExpiry := some (s.lengthEnd p) }).postOnAir p

/-- A page in ATTACK none of whose zones has duck fade ATTACK leaves ATTACK (06, R134). -/
def State.tryLeaveAttack (s : State) (id : Nat) : State :=
  match s.page id with
  | none => s
  | some p =>
    if p.st = .attack ∧ !((s.heldZones id).any fun z => (s.zone z).duckFade == .attack) then s.goOnAir p
    else s

/-! ### Page ends -/

/-- PAGE_ENDED with its cause, and for DONE the voice's end cause (06, R138). -/
def State.postEnded (s : State) (id : Nat) (c : PageCause) (v : EndCause) : State :=
  s.report clsPage repPageEnded (w32 id) (w32 (pageCauseCode c))
    (w32 (if c = .done then endCauseCode v else 0))

/-- A page ends: from WAITING it is removed, else by the end procedure (06, R138). Zones and mics freed are
events for the arbiter (06, R130). -/
def State.endPage (s : State) (id : Nat) (c : PageCause) (v : EndCause := .finished) : State :=
  match s.page id with
  | none => s
  | some p =>
    if p.st = .waiting then (s.dropPage id).postEnded id c v
    else
      let zones := s.heldZones id
      let s := s.dropPage id
      let s := zones.foldl (fun s z => (s.setHolder z none).releaseZone z) s
      let s := match p.voice with | some n => s.stopVoice n .cut | none => s
      let s := if p.live then s.setMic p.mic none else s
      ((s.postEnded id c v).handOnAir).tell .scan

/-! ### The zone arbiter -/

/-- Is zone `z` available to page `p` (06, R131)? -/
def State.zoneAvailable (s : State) (p : Page) (claimed : BitVec 32) (z : Nat) : Bool :=
  inSet p.zones z && !inSet claimed z &&
    (match (s.zone z).holder with
     | none => true
     | some h => match s.page h with | some q => decide (q.priority < p.priority) | none => true)

/-- The voice a grant would take (06, R132; 03, R68). -/
def State.lowestAvailable (s : State) : Option Nat := (oneTo 64).find? s.available

def Page.needsVoice (p : Page) : Bool := !p.live || p.chime.isSome

/-- Is a page grantable (06, R131)? -/
def State.grantable (s : State) (p : Page) (claimed : BitVec 32) : Bool :=
  let wanted := (oneTo 32).filter (inSet p.zones)
  (if p.partialMode then wanted.any (s.zoneAvailable p claimed) else wanted.all (s.zoneAvailable p claimed)) &&
    (!p.needsVoice || s.lowestAvailable.isSome) && (!p.live || s.micFree p.mic)

/-- An old holder after a pre-emption: it ends, or goes on with the zones it has left
(06, R132, R134, R143). -/
def State.preempted (s : State) (id : Nat) : State :=
  match s.page id with
  | none => s
  | some p =>
    if !p.partialMode || (s.heldZones id).isEmpty then s.endPage id .preempted
    else (s.tryLeaveAttack id).handOnAir

/-- The voice of a granted page (06, R132): the chime first, then the recording. -/
def State.takeVoice (s : State) (p : Page) : State × Option Nat :=
  if !p.needsVoice then (s, none)
  else
    match s.lowestAvailable with
    | none => (s, none)
    | some v =>
      let first := match p.chime with | some d => some d | none => p.recording
      let second := if p.chime.isSome then p.recording else none
      match first with
      | none => (s, none)
      | some d => (s.makeStart v ⟨.page p.id, d, second, .notYet⟩, some v)

/-- A grant (06, R132). The pre-empted holders are taken by the lowest zone that each held (log 44). -/
def State.grant (s : State) (p : Page) (claimed : BitVec 32) : State :=
  let zones := (oneTo 32).filter (s.zoneAvailable p claimed)
  let old := (zones.filterMap fun z => (s.zone z).holder).eraseDups
  let s := zones.foldl (fun s z => s.setHolder z (some p.id)) s
  let s := old.foldl State.preempted s
  let s := if p.live then s.setMic p.mic (some p.id) else s
  let (s, v) := s.takeVoice p
  let s := s.setPage { p with st := .attack, voice := v, waitExpiry := none, gate := false }
  let s := s.report clsPage repPageGranted (w32 p.id) ((zoneSet zones).setWidth 32) (w32 (v.getD 0))
  let s := zones.foldl State.duckZone s
  s.tryLeaveAttack p.id

/-- Examined before: higher priority, then lower arrival number (06, R131). -/
def insertWaiting (p : Page) : List Page → List Page
  | [] => [p]
  | q :: qs =>
    if p.priority > q.priority ∨ (p.priority = q.priority ∧ p.arrival < q.arrival) then p :: q :: qs
    else q :: insertWaiting p qs

/-- A scan examines one page (06, R131). A page with wait limit 0 makes no claims (06, R129). -/
def State.examine (acc : State × BitVec 32) (id : Nat) : State × BitVec 32 :=
  match acc.1.page id with
  | none => acc
  | some p =>
    if p.st ≠ .waiting then acc
    else if acc.1.grantable p acc.2 then (acc.1.grant p acc.2, acc.2)
    else if p.waitLimit = some 0 then acc
    else
      (acc.1, acc.2 ||| setOf 32 fun z => inSet p.zones z && (acc.1.zone z).holder.isNone)

/-- A scan of the arbiter (06, R130, R131). -/
def State.scan (s : State) : State :=
  let order := ((s.rc.pages.filter (·.st == .waiting)).foldl (fun l p => insertWaiting p l) []).map (·.id)
  (order.foldl State.examine (s, 0)).1

/-! ### Page requests -/

inductive PageRefusal
  | range | interlock | duplicate | full | notGranted
  deriving DecidableEq, Repr

/-- The ids kept for the page buttons (06, R126). -/
def buttonId (id : Nat) : Bool := decide (0xFF01 ≤ id ∧ id ≤ 0xFF08)

/-- A descriptor of a page: one that R51 accepts, and not LOOP (06, R127). -/
def pageDesc (d : DescField) : Option (Desc × Bool) := if d.mode = 1 then none else descOf d

/-- A descriptor read only when it is wanted. -/
def wantDesc (wanted : Bool) (d : DescField) : Option (Option Desc × Bool) :=
  if wanted then (pageDesc d).map fun x => (some x.1, x.2) else some (none, false)

/-- The requested set: the zones named, and those in a named group (06, R127). -/
def State.requested (s : State) (zones : BitVec 32) (groups : BitVec 8) : BitVec 32 :=
  setOf 32 fun z => inSet zones z || (s.zone z).groups &&& groups != 0

/-- A page record as read, with its CLAMPED flag; an error is RANGE, with its CLAMPED flag: a page whose
requested set is empty has had its limits clamped (06, R127; 11, R193; log 16). -/
def State.readPage (s : State) (p : PageField) : Except Bool (Page × Bool) :=
  let live := p.source == 0
  if p.priority > 3 ∨ p.mode > 1 ∨ p.source > 1 ∨ (live = true ∧ ¬ (p.mic = 1 ∨ p.mic = 2)) ∨ p.chime > 1 ∨
      buttonId p.id = true then .error false
  else
    match wantDesc (!live) p.recording, wantDesc (p.chime == 1) p.chimeDesc with
    | some (rec, c1), some (chime, c2) =>
      let wait := min p.waitLimit 600000
      let limit := if live then max 1 (min p.liveLimit 600) else p.liveLimit
      let zones := s.requested p.zones p.groups
      let clamped := c1 || c2 || wait != p.waitLimit || limit != p.liveLimit
      if zones = 0 then .error clamped
      else
        .ok (⟨p.id, p.priority, p.mode == 1, p.zones, p.groups, zones, live, p.mic, some wait, limit, rec, chime,
          .waiting, 0, none, false, false, none, none, silence⟩, clamped)
    | _, _ => .error false

/-- A request that R127 accepts is taken into the table and scanned for. One with wait limit 0 that this scan
does not grant is removed at its end; what the scan granted to other pages stands (06, R129; log 34). -/
def State.takePage (s : State) (p : Page) : State × Option PageRefusal :=
  if s.interlocked ∧ p.priority < 3 then (s, some .interlock)
  else if (s.page p.id).isSome then (s, some .duplicate)
  else if s.rc.pages.length ≥ Config.pageCapacity then (s, some .full)
  else
    let n := (s.rc.arrival + 1) % 2 ^ 32
    let expiry := match p.waitLimit with
      | some (k + 1) => some (s.ck.now + delaySamples s.ck.rate (k + 1))
      | _ => none
    let p := { p with arrival := n, waitExpiry := expiry }
    let t := ({ s with rc := { s.rc with arrival := n, pages := s.rc.pages ++ [p] } }).scan
    match t.page p.id, p.waitLimit with
    | some q, some 0 => if q.st = .waiting then (t.dropPage p.id, some .notGranted) else (t, none)
    | _, _ => (t, none)

/-- A page record as command or cue action, with its refusal and its CLAMPED flag (06, R147). -/
def State.requestPage (s : State) (f : PageField) : State × Option PageRefusal × Bool :=
  match s.readPage f with
  | .error clamped => (s, some .range, clamped)
  | .ok (p, clamped) =>
    let (t, e) := s.takePage p
    (t, e, clamped)

/-- The answer of a START_PAGE command to a refusal (06, R147). -/
def refusalFail (e : PageRefusal) : Fail :=
  match e with
  | .range => { res := .range }
  | .interlock => { res := .state, why := .interlock }
  | .duplicate => { res := .state, why := .duplicate }
  | .full => { res := .full }
  | .notGranted => { res := .busy }

/-- START_PAGE (06, R147). -/
def State.startPage (s : State) (r : Link) (f : PageField) : State :=
  match s.requestPage f with
  | (t, none, clamped) => t.finish r .ok .none clamped
  | (t, some e, clamped) => t.finish r (refusalFail e).res (refusalFail e).why clamped

/-- END_PAGE (06, R140). -/
def State.applyEndPage (s : State) (id : Nat) : Except Fail (State × Bool) :=
  match s.page id with
  | none => .error { res := .state, why := .absent }
  | some p => if p.live then .ok (s.endPage id .released, false) else .error { res := .state, why := .notLive }

/-- CANCEL_PAGE (06, R141). -/
def State.applyCancelPage (s : State) (id : Nat) : Except Fail (State × Bool) :=
  match s.page id with
  | none => .error { res := .state, why := .absent }
  | some _ => .ok (s.endPage id .cancelled, false)

/-! ### Page buttons -/

/-- The page request of a button (06, R145). -/
def State.buttonPage (s : State) (n : Nat) (b : Button) : Page :=
  ⟨0xFF00 + n, b.priority, b.partialMode, b.zones, b.groups, s.requested b.zones b.groups, true, b.mic, none, 600,
    none, none, .waiting, 0, none, false, false, none, none, silence⟩

/-- Activation of PAGE_n (06, R145). -/
def State.pressPage (s : State) (n : Nat) : State :=
  match tget s.rc.buttons (n - 1) none with
  | none => s
  | some b =>
    let p := s.buttonPage n b
    if (s.page p.id).isSome ∨ p.zones = 0 then s
    else (s.takePage p).1

/-- Deactivation of PAGE_n: the release of page 0xFF00 + n (06, R140, R145). -/
def State.releasePage (s : State) (n : Nat) : State := s.endPage (0xFF00 + n) .released

/-- SET_PAGE_BUTTON (06, R144): `unset` 1 for UNSET, 0 for the five fields (11, R189). The mic is coded 1 for
P1 and 2 for P2, as in the page record of R126 (log 15). -/
def State.applySetButton (s : State) (b unset : Nat) (f : ButtonField) : Except Fail (State × Bool) :=
  let put := fun x : Option Button =>
    (({ s with rc := { s.rc with buttons := tset s.rc.buttons (b - 1) x } } : State), false)
  if ¬ (1 ≤ b ∧ b ≤ 8) ∨ unset > 1 then .error { res := .range }
  else if unset = 1 then .ok (put none)
  else if f.priority > 3 ∨ f.mode > 1 ∨ ¬ (f.mic = 1 ∨ f.mic = 2) then .error { res := .range }
  else .ok (put (some ⟨f.zones, f.groups, f.priority, f.mode == 1, f.mic⟩))

/-! ### SET_ZONE -/

/-- A duck time: above 60 000 it is taken as 60 000 (06, R146). -/
def readDuckTime (t : Nat) : Nat × Bool := if t > 60000 then (60000, true) else (t, false)

/-- The zone record with the fields of SET_ZONE written, and whether one was clamped (06, R146). -/
def writeZone (x : Zone) (f : ZoneField) : Zone × Bool :=
  let depth := readOr f.depth x.depth readOffset
  let attack := readOr f.attack x.attack readDuckTime
  let release := readOr f.release x.release readDuckTime
  let page := readOr f.pageLevel x.pageLevel readLevel
  ({ x with programme := match f.programme with | some v => v == 0 | none => x.programme,
            depth := depth.1, attack := attack.1, release := release.1,
            groups := f.groups.getD x.groups, pageLevel := page.1 },
   depth.2 || attack.2 || release.2 || page.2)

/-- SET_ZONE (06, R146): programme 0 ENABLED, 1 DISABLED. -/
def State.applySetZone (s : State) (z : Nat) (f : ZoneField) : Except Fail (State × Bool) :=
  if ¬ (1 ≤ z ∧ z ≤ 32) ∨ !twoValued f.programme then .error { res := .range }
  else
    let x := s.zone z
    let w := writeZone x f
    let s := s.setZone z w.1
    let s :=
      match w.1.holder with
      | none => s
      | some id =>
        if w.1.programme ∧ (!x.programme ∨ w.1.depth ≠ x.depth) then (s.duckZone z).tryLeaveAttack id else s
    .ok (if w.1.groups = x.groups then s else s.handOnAir, w.2)

/-! ### Notices and expiries -/

/-- A notice for a RELAY(zone) entry (06, R134). A notice whose target has an entry again is stale. -/
def State.duckNotice (s : State) (z : Nat) (c : FadeCause) : State :=
  if c = .completed ∧ (s.fadeOn (.duck z)).isNone then
    let x := s.zone z
    let s := s.setDuckFade z .none
    match x.duckFade, x.holder with
    | .attack, some id => s.tryLeaveAttack id
    | _, _ => s
  else s

/-- STARTED (06, R136). -/
def State.pageStarted (s : State) (id v : Nat) : State :=
  match s.page id with
  | none => s
  | some p =>
    if p.st = .chime ∧ p.voice = some v then (s.setPage { p with st := .onAir }).postOnAir p else s

/-- ENDED (06, R136). -/
def State.pageVoiceEnded (s : State) (id v : Nat) (c : EndCause) : State :=
  match s.page id with
  | none => s
  | some p =>
    if p.voice = some v ∧ (c = .finished ∨ c = .fault) then
      let p := { p with voice := none }
      if !p.live then (s.setPage p).endPage id .done c
      else
        match p.st with
        | .chime => s.goOnAir p
        | .onAir => s.setPage { p with gate := true, lengthExpiry := some (s.lengthEnd p) }
        | _ => s.setPage p
    else s

/-- A wait expiry (06, R139). -/
def State.waitExpired (s : State) (id : Nat) : Bool :=
  match s.page id with
  | none => false
  | some p => p.st == .waiting && (match p.waitExpiry with | some e => decide (e ≤ s.ck.now) | none => false)

/-- A length expiry (06, R137). -/
def State.lengthExpired (s : State) (id : Nat) : Bool :=
  match s.page id with
  | none => false
  | some p => match p.lengthExpiry with | some e => decide (e ≤ s.ck.now) | none => false

/-- The activation of the interlock ends every page below priority 3, in the order of the table (06, R142;
log 44); their number. -/
def State.endLowPages (s : State) : State × Nat :=
  let low := (s.rc.pages.filter fun p => decide (p.priority < 3)).map (·.id)
  (low.foldl (fun s id => s.endPage id .interlock) s, low.length)

end Sys2Proof.Machine
end

