-- ==== Sys2Proof/Machine/Arming.lean ====
section
/-! DEFINITION. Cue records (04, R76–R78), their reading, validation and clamping (04, R79–R81), the primes of
an arming (04, R82), and the end of an arming by a fault or by abandonment (04, R80, R83, R94). The
triggers that a completed arming brings stand in CueEngine.lean. -/

namespace Sys2Proof.Machine

/-! ### Cue records -/

/-- A level field of mode ABSOLUTE as clamped, with the number of values clamped (04, R81). -/
def armLevel (mode : Nat) (v : Int) : Int × Nat :=
  if mode = 0 then
    let x := readLevel v
    (x.1, if x.2 then 1 else 0)
  else (v, 0)

/-- A duration as clamped, with the number of values clamped (04, R81). -/
def armDuration (t : Nat) : Nat × Nat :=
  let x := readDuration t
  (x.1, if x.2 then 1 else 0)

/-- The longest delay of an action or a command, in ms (04, R81; 03, R70). -/
def readDelay (t : Nat) : Nat × Bool := if t > 600000 then (600000, true) else (t, false)

/-- The kind and arguments of an action of 32 bytes, with the number of values clamped; `none` for an
unknown kind (04, R78, R80, R81). -/
def bodyAt (b : List Byte) : Option (ActionBody × Nat) :=
  let byte := fun i => fieldAt b i 1
  let dur := armDuration (fieldAt b 12 4)
  match byte 4 with
  | 1 =>
    let v := armLevel (byte 8) (levelAt b 10)
    some (.fade (targetAt b 5) (byte 8) v.1 dur.1 (byte 16), v.2 + dur.2)
  | 2 =>
    let v := armLevel (byte 8) (levelAt b 10)
    some (.setLevel (targetAt b 5) (byte 8) v.1, v.2)
  | 3 =>
    let v := armLevel 0 (levelAt b 10)
    some (.setContrib (byte 5) (byte 6) v.1 (byte 8) dur.1 (byte 16), v.2 + dur.2)
  | 4 => some (.removeContrib (byte 5) (byte 6) dur.1 (byte 16), dur.2)
  | 5 =>
    let d := descAt b 8
    if d.mode = 2 ∧ d.count = 0 then some (.startVoice (byte 5) { d with count := 1 }, 1)
    else some (.startVoice (byte 5) d, 0)
  | 6 => some (.stopVoice (byte 5) (byte 8) (fieldAt b 12 4), 0)
  | 7 =>
    let t := armDuration (fieldAt b 16 4)
    some (.recallScene (linkAt b 8) t.1 (byte 20), t.2)
  | 8 => some (.startPage (linkAt b 8), 0)
  | 9 => some (.setOutput (byte 5) (byte 8), 0)
  | 10 => some (.mark (BitVec.ofNat 32 (fieldAt b 8 4)), 0)
  | _ => none

/-- An action of 32 bytes (04, R78). -/
def actionAt (b : List Byte) : Option (Action × Nat) :=
  (bodyAt b).map fun x =>
    let d := readDelay (fieldAt b 0 4)
    (⟨d.1, x.1⟩, x.2 + if d.2 then 1 else 0)

def isStartVoice : ActionBody → Bool
  | .startVoice _ _ => true
  | _ => false

/-- BOOK_FAULT reasons (04, R80). -/
inductive BookReason
  | window | absent | count | trigger | next | kind | voices
  deriving DecidableEq, Repr

def bookReasonCode : BookReason → Nat
  | .window => 0
  | .absent => 1
  | .count => 2
  | .trigger => 3
  | .next => 4
  | .kind => 5
  | .voices => 6

/-- The trigger of a header (04, R77). -/
def triggerOf (kind line : Nat) : Option Trigger :=
  match kind with
  | 0 => some .manual
  | 1 => some .followGo
  | 2 => some .followDone
  | 3 => if 1 ≤ line ∧ line ≤ 8 then some (.input line) else none
  | _ => none

def isFollow : Trigger → Bool
  | .followGo => true
  | .followDone => true
  | _ => false

/-- A cue of which nothing has been read. -/
def Cue.start (index : Nat) : Cue := ⟨index, 0, none, .manual, 0, 0, [], 0, [], []⟩

/-- A header read and checked (04, R77, R80, R81); one with a fault gives no clamps (log 36). -/
def readHeader (c : Cue) (b : List Byte) : Except BookReason Cue :=
  let count := fieldAt b 12 1
  let next := fieldAt b 4 2
  if count > 32 then .error .count
  else
    match triggerOf (fieldAt b 6 1) (fieldAt b 7 1) with
    | none => .error .trigger
    | some t =>
      if 4096 ≤ next ∧ next ≤ 65534 then .error .next
      else
        let wait := if isFollow t then readDuration (fieldAt b 8 4) else (0, false)
        .ok { c with display := fieldAt b 0 4, next := if next = 65535 then none else some next,
                     trigger := t, wait := wait.1, count := count,
                     clamps := c.clamps + if wait.2 then 1 else 0 }

/-- One more action of a record (04, R80). -/
def readAction (c : Cue) (b : List Byte) : Except BookReason Cue :=
  match actionAt b with
  | none => .error .kind
  | some (a, n) =>
    let c := { c with actions := c.actions ++ [a], clamps := c.clamps + n }
    if (c.actions.filter fun x => isStartVoice x.body).length > Config.cueVoiceCapacity then .error .voices
    else .ok c

/-- A read of `n` actions, in record order; one with a fault gives no clamps (04, R80, R81; log 36). -/
def readActions (c : Cue) (b : List Byte) : Nat → Except BookReason Cue
  | 0 => .ok c
  | n + 1 =>
    match readAction c (b.take 32) with
    | .error e => .error e
    | .ok c => readActions c (b.drop 32) n

/-- The actions of the next actions read (04, R79). -/
def Cue.batch (c : Cue) : Nat := min 8 (c.count - c.actions.length)

/-- The actions of a cue with their action numbers. -/
def Cue.numbered (c : Cue) : List (Nat × Action) := (List.range c.actions.length).zip c.actions

/-- The page blocks a cue needs, in action order (04, R79). -/
def Cue.pageLinks (c : Cue) : List (Nat × Link) :=
  c.numbered.filterMap fun x => match x.2.body with | .startPage l => some (x.1, l) | _ => none

/-! ### Armings -/

def State.arming (s : State) (fire : Bool) : Option Arming := if fire then s.ce.fireArm else s.ce.seqArm

def State.setArming (s : State) (fire : Bool) (a : Option Arming) : State :=
  { s with ce := if fire then { s.ce with fireArm := a } else { s.ce with seqArm := a } }

/-- The next read of an arming: its link and length; none while it is priming (04, R79). -/
def Arming.want (a : Arming) (book : Link) : Option (Link × Nat) :=
  match a.step with
  | .index => some (linkPlus book (8 * a.cue.index), 8)
  | .header rec => some (rec, 32)
  | .actions rec => some (linkPlus rec (32 + 32 * a.cue.actions.length), 32 * a.cue.batch)
  | .pages ((_, l) :: _) => some (l, 96)
  | .pages [] => none
  | .priming => none

/-- The command record that an arming is to complete. -/
def armJob (fire : Bool) : Job := if fire then .fireArm else .seqArm

/-- A live read of the arming, if one is out, now belongs to an abandoned arming (04, R79, R83). -/
def State.staleRead (s : State) (fire : Bool) : State :=
  let mark (o : Outstanding) : Outstanding :=
    if o.use == .arming fire true then { o with use := .arming fire false } else o
  { s with ml := { s.ml with slots := s.ml.slots.map mark } }

/-- The primes of a cue that await a run are released, in record order (03, R69; log 47). -/
def State.releasePrimes (s : State) (fire : Bool) (c : Cue) : State :=
  c.primes.foldl (fun s p =>
    match p.status with
    | .failed _ => s
    | _ => s.releasePrime p.voice (.await fire)) s

/-! ### GO_IGNORED -/

inductive IgnoreReason
  | held | pending | ended | empty | faulted | abandoned
  deriving DecidableEq, Repr

def ignoreCode : IgnoreReason → Nat
  | .held => 0
  | .pending => 1
  | .ended => 2
  | .empty => 3
  | .faulted => 4
  | .abandoned => 5

/-- GO_IGNORED (04, R86). -/
def State.goIgnored (s : State) (src : GoSource) (why : IgnoreReason) : State :=
  s.report clsCue repGoIgnored (w32 (goSourceCode src)) (w32 (ignoreCode why))
    (w32 (match s.ce.armed with | some c => c.display | none => 0))

/-- A latched GO is discarded (04, R87). -/
def State.discardLatch (s : State) (why : IgnoreReason) : State :=
  match s.ce.latched with
  | none => s
  | some src => ({ s with ce := { s.ce with latched := none } }).goIgnored src why

/-! ### Ends of an arming -/

/-- BOOK_FAULT ends an arming (04, R80, R94, R98). -/
def State.bookFault (s : State) (fire : Bool) (a : Arming) (why : BookReason) : State :=
  let s := s.releasePrimes fire a.cue
  let s := s.report clsCue repBookFault (w32 a.cue.index) (w32 (bookReasonCode why)) (w32 (if fire then 1 else 0))
  let s := s.setArming fire none
  let s :=
    if fire then { s with ce := { s.ce with fire := .idle } }
    else ({ s with ce := { s.ce with seq := .faulted, armed := none } }).discardLatch .faulted
  s.finishJob (armJob fire) (if why = .window then .window else .state) (decide (a.cue.clamps > 0))

/-- Has an arming, in progress or done, clamped a value (04, R81; 11, R193)? -/
def armClamped (a : Option Arming) (c : Option Cue) : Bool :=
  (match a with | some x => decide (x.cue.clamps > 0) | none => false) ||
    (match c with | some x => decide (x.clamps > 0) | none => false)

/-- The sequence's arming is abandoned and its armed cue released (04, R83). -/
def State.abandonSeq (s : State) : State :=
  let clamped := armClamped s.ce.seqArm none
  let s := s.staleRead false
  let s := match s.ce.seqArm with | some a => s.releasePrimes false a.cue | none => s
  let s := match s.ce.armed with | some c => s.releasePrimes false c | none => s
  let s := { s with ce := { s.ce with seqArm := none, armed := none, follow := .idle, pred := none } }
  (s.discardLatch .abandoned).finishJob .seqArm .aborted clamped

/-- The fire slot is abandoned (04, R94). -/
def State.abandonFire (s : State) : State :=
  if s.ce.fire = .idle then s
  else
    let clamped := armClamped s.ce.fireArm s.ce.fireCue
    let s := s.staleRead true
    let s := match s.ce.fireArm with | some a => s.releasePrimes true a.cue | none => s
    let s := match s.ce.fireCue with | some c => s.releasePrimes true c | none => s
    let s := { s with ce := { s.ce with fire := .idle, fireArm := none, fireCue := none } }
    s.finishJob .fireArm .aborted clamped

/-- An arming of a cue index starts (04, R79). -/
def State.beginArming (s : State) (fire : Bool) (index : Nat) : State :=
  let s := s.setArming fire (some ⟨Cue.start index, .index⟩)
  { s with ce := if fire then { s.ce with fire := .arming } else { s.ce with seq := .arming } }

/-! ### Primes -/

/-- The start request of a START_VOICE action, as a prime status (03, R69). A bad descriptor is found before a
reserved voice, as in R70 (log 52). -/
def State.primeVoice (s : State) (fire : Bool) (v : Nat) (d : DescField) : State × PrimeStatus :=
  if !voiceNumber v then (s, .failed .range)
  else
    match descOf d with
    | none => (s, .failed .range)
    | some (e, _) =>
      match s.requestStart v ⟨.await fire, e, none, .notYet⟩ with
      | .ok (t, _) => (t, .priming)
      | .error f => (s, .failed (if f.res = .reserved then .reserved else .notPrimed))

/-- The primes of a cue are started in record order (04, R82). -/
def State.startPrimes (s : State) (fire : Bool) (c : Cue) : State × List Prime :=
  c.numbered.foldl (fun acc x =>
    match x.2.body with
    | .startVoice v d =>
      let r := acc.1.primeVoice fire v d
      (r.1, acc.2 ++ [⟨x.1, v, r.2⟩])
    | _ => acc) (s, [])

/-- Every prime is done (04, R82). -/
def Cue.primesDone (c : Cue) : Bool := c.primes.all fun p => !(p.status == .priming)

/-- The prime of a voice still PRIMING takes a status (04, R82). -/
def Cue.setPrime (c : Cue) (v : Nat) (st : PrimeStatus) : Cue :=
  let mark (p : Prime) : Prime := if p.voice == v && p.status == .priming then { p with status := st } else p
  { c with primes := c.primes.map mark }

end Sys2Proof.Machine
end

