-- ==== Sys2Proof/Machine/CueEngine.lean ====
section
/-! DEFINITION. The cue engine: the follow timer (04, R84, R85), the execution of actions (04, R91, R92;
02, R48), triggers and runs (04, R89, R90, R93), armings that complete (04, R82, R87, R94), GO and
trigger lines (04, R86, R88), and the freeze condition (04, R95–R97). -/

namespace Sys2Proof.Machine

/-! ### The follow timer -/

def State.setFollow (s : State) (f : Follow) : State := { s with ce := { s.ce with follow := f } }

/-- An event at this sample, as a follow wait counts from it (04, R85). -/
def State.sinceNow (s : State) : Since := if s.frozen then .passed 0 else .at s.ck.now

/-- The timer that counts `wait` ms from an event. One whose due sample has passed by the time the cue's
kind is known is EXPIRED (log 17). -/
def State.countFrom (s : State) (wait : Nat) : Since → Follow
  | .at e =>
    let due := e + delaySamples s.ck.rate wait
    if due < s.ck.now then .expired else .counting (.at due)
  | .passed n =>
    let w := delaySamples s.ck.rate wait
    if w ≤ n ∧ 0 < n then .expired else .counting (.remaining (w - n))

/-- The follow timer starts for the cue of the sequence, once its kind is known (04, R84, R85). -/
def State.startFollow (s : State) (c : Cue) : State :=
  match s.ce.pred with
  | none => s
  | some p =>
    if p.followOff then s
    else
      match c.trigger with
      | .followGo => s.setFollow (s.countFrom c.wait p.triggered)
      | .followDone =>
        match p.completed with
        | none => s.setFollow .waitingDone
        | some e => s.setFollow (s.countFrom c.wait e)
      | _ => s

/-- The wait of the cue that the sequence has armed or is arming. -/
def Ce.followWait (c : Ce) : Nat :=
  match c.armed, c.seqArm with
  | some x, _ => x.wait
  | none, some a => a.cue.wait
  | none, none => 0

/-- A run has completed or been retired early: a WAITING_DONE timer on it starts (04, R85, R89, R93). -/
def State.runEnded (s : State) (run : Nat) : State :=
  match s.ce.pred with
  | none => s
  | some p =>
    if p.run ≠ run then s
    else
      let e := s.sinceNow
      let s := { s with ce := { s.ce with pred := some { p with completed := some e } } }
      if s.ce.follow = .waitingDone then s.setFollow (s.countFrom s.ce.followWait e) else s

/-! ### Runs -/

def State.runOf (s : State) (n : Nat) : Option Run := s.ce.runs.find? (·.number == n)

def State.displayOf (s : State) (n : Nat) : Nat := match s.runOf n with | some r => r.display | none => 0

/-- The run is examined for completion (04, R93). -/
def State.examineRun (s : State) (n : Nat) : State :=
  match s.runOf n with
  | none => s
  | some r =>
    if (s.ce.queue.any (·.run == n)) ∨ (s.lv.fades.any (·.owner == .cue n)) then s
    else
      let s := s.report clsCue repCueDone (w32 n) (w32 r.display) (w32 r.index)
      ({ s with ce := { s.ce with runs := s.ce.runs.filter fun x => !(x.number == n) } }).runEnded n

/-- A discarded START_VOICE action releases its voice (03, R69). -/
def State.releaseAction (s : State) (run : Nat) (body : ActionBody) : State :=
  match body with
  | .startVoice v _ => s.releasePrime v (.cue run)
  | _ => s

/-- A run is retired early; its voices are released in queue order (04, R89; log 47). -/
def State.retire (s : State) (r : Run) : State :=
  let gone := s.ce.queue.filter (·.run == r.number)
  let s := { s with ce := { s.ce with queue := s.ce.queue.filter (fun q => !(q.run == r.number)),
                                      runs := s.ce.runs.filter fun x => !(x.number == r.number) } }
  let s := gone.foldl (fun s q => s.releaseAction q.run q.body) s
  let s := s.report clsCue repCueOverrun (w32 r.number) (w32 r.display) (w32 gone.length)
  s.runEnded r.number

/-! ### Actions -/

/-- A voice still PRIMING or PRIMED for a run (03, R69). -/
def State.primedFor (s : State) (v run : Nat) : Bool :=
  let x := s.voice v
  (x.st == .priming || x.st == .primed) && x.owner == .cue run

/-- The start of a queued or executing START_VOICE action's voice (03, R69). -/
def State.timeVoice (s : State) (v run : Nat) (st : VStart) : State :=
  if s.primedFor v run then s.setStart v st else s

/-- The skip reason of a command result (04, R91). -/
def skipOf : Result → Skip
  | .state => .state
  | .reserved => .reserved
  | .full => .full
  | _ => .range

/-- The hold is judged first for actions aimed at a foldback mix (01, R22; 02, R48; 05, R104). -/
def State.actionHeld (s : State) : ActionBody → Bool
  | .fade t _ _ _ _ => (t.kind == 1 || t.kind == 2) && s.heldBus t.id1
  | .setLevel t _ _ => (t.kind == 1 || t.kind == 2) && s.heldBus t.id1
  | .setContrib b _ _ _ _ _ => s.heldBus b
  | .removeContrib b _ _ _ => s.heldBus b
  | _ => false

/-- An action that would fail a command is skipped and changes nothing (02, R48; 04, R91). -/
def State.skipFail (s : State) (r : Except Fail (State × Bool)) : State × Option Skip :=
  match r with
  | .ok (t, _) => (t, none)
  | .error f => (s, some (skipOf f.res))

/-- The skip reason of a refused page (06, R147). -/
def skipOfPage : PageRefusal → Skip
  | .range => .range
  | .interlock => .interlock
  | .full => .full
  | .duplicate => .state
  | .notGranted => .state

/-- A START_PAGE action (04, R92; 06, R147). -/
def State.actionPage (s : State) (page : Option PageField) : State × Option Skip :=
  match page with
  | none => (s, some .range)
  | some f =>
    let (t, e, _) := s.requestPage f
    (t, e.map skipOfPage)

/-- A START_VOICE action at its time (04, R91; 03, R69). -/
def State.actionVoice (s : State) (run v : Nat) (failed : Option Skip) : State × Option Skip :=
  match failed with
  | some why => (s, some why)
  | none => (s, if s.primedFor v run then none else some .notPrimed)

/-- A SET_OUTPUT action writes the cue value (04, R92; 08, R167). -/
def State.actionOutput (s : State) (k value : Nat) : State × Option Skip :=
  if ¬ (1 ≤ k ∧ k ≤ 16) ∨ value > 1 then (s, some .range)
  else (s.setOutput k { s.output k with cueValue := value == 1 }, none)

/-- An action is carried out, or skipped (04, R91, R92). -/
def State.carryOut (s : State) (run display : Nat) (body : ActionBody) (failed : Option Skip)
    (page : Option PageField) : State × Option Skip :=
  if s.actionHeld body then (s, some .held)
  else
    match body with
    | .fade t mode level dur law => s.skipFail (s.applyFade t mode level dur law (.cue run))
    | .setLevel t mode level => s.skipFail (s.applySetLevel t mode level)
    | .setContrib b c level tap dur law => s.skipFail (s.applySetContrib b c level tap dur law (.cue run))
    | .removeContrib b c dur law => s.skipFail (s.applyRemoveContrib b c dur law (.cue run))
    | .startVoice v _ => s.actionVoice run v failed
    | .stopVoice v mode n => s.skipFail (s.applyStopVoice v mode n)
    | .recallScene l dur law => (s.actionRecall l dur law, none)
    | .startPage _ => s.actionPage page
    | .setOutput k value => s.actionOutput k value
    | .mark value => (s.report clsSystem repMark (w32 run) value (w32 display), none)

/-- An action executes; one that cannot act posts ACTION_SKIPPED (04, R91). -/
def State.execute (s : State) (run display act : Nat) (body : ActionBody) (failed : Option Skip)
    (page : Option PageField) : State :=
  match s.carryOut run display body failed page with
  | (t, none) => t
  | (t, some why) => t.report clsCue repActionSkipped (w32 run) (w32 act) (w32 (skipCode why))

/-- The entry at the front of the queue, if it is due (04, R91). -/
def State.dueAction (s : State) : Option Queued :=
  match s.ce.queue with
  | [] => none
  | q :: _ =>
    match q.due with
    | .at d => if d ≤ s.ck.now ∧ !s.frozen then some q else none
    | .remaining _ => none

/-- The due action at the front leaves the queue and executes, and its run is examined (04, R91, R93). -/
def State.runDueAction (s : State) (q : Queued) : State :=
  let s := { s with ce := { s.ce with queue := s.ce.queue.drop 1 } }
  (s.execute q.run (s.displayOf q.run) q.act q.body q.failed q.page).examineRun q.run

/-! ### Triggers -/

/-- The queue is ordered by due sample, then by the order of triggers and actions (04, R91). -/
def insertQueued (q : Queued) (due : Nat) : List Queued → List Queued
  | [] => [q]
  | x :: xs =>
    match x.due with
    | .at d => if d ≤ due then x :: insertQueued q due xs else q :: x :: xs
    | .remaining _ => x :: insertQueued q due xs

/-- The skip reason of a failed prime. -/
def Cue.failedPrime (c : Cue) (act : Nat) : Option Skip :=
  match c.primes.find? (·.act == act) with
  | some p => match p.status with | .failed why => some why | _ => none
  | none => none

def Cue.pageOf (c : Cue) (act : Nat) : Option PageField := (c.pages.find? (·.1 == act)).map (·.2)

/-- A trigger makes a run; the list of 8 retires its oldest (04, R89). -/
def State.makeRun (s : State) (c : Cue) : State × Nat :=
  let n := (s.ce.runCounter + 1) % 2 ^ 32
  let s := { s with ce := { s.ce with runCounter := n } }
  let s := match s.ce.runs with
    | r :: _ => if s.ce.runs.length ≥ Config.runCapacity then s.retire r else s
    | [] => s
  ({ s with ce := { s.ce with runs := s.ce.runs ++ [⟨n, c.index, c.display, s.ck.now⟩] } }, n)

/-- The hand-over of primes (04, R90 step 1; 03, R69). -/
def State.handOver (s : State) (fire : Bool) (run : Nat) (c : Cue) : State :=
  c.primes.foldl (fun s p =>
    let x := s.voice p.voice
    match p.status with
    | .failed _ => s
    | _ =>
      if (x.st = .priming ∨ x.st = .primed) ∧ x.owner = .await fire then
        s.setVoice p.voice { x with owner := .cue run }
      else s) s

/-- A zero-delay action (04, R90 step 2): a START_VOICE gives its voice start AT(s). -/
def State.zeroDelay (run : Nat) (c : Cue) (s : State) (x : Nat × Action) : State :=
  let failed := c.failedPrime x.1
  let s := s.execute run c.display x.1 x.2.body failed (c.pageOf x.1)
  match x.2.body, failed with
  | .startVoice v _, none => s.timeVoice v run (.at s.ck.now)
  | _, _ => s

/-- An action with a delay is queued, or dropped from a full queue (04, R90 step 3). -/
def State.enqueue (run : Nat) (c : Cue) (s : State) (x : Nat × Action) : State :=
  if s.ce.queue.length ≥ Config.queueCapacity then
    (s.report clsCue repActionDropped (w32 run) (w32 x.1) (w32 c.display)).releaseAction run x.2.body
  else
    let due := s.ck.now + delaySamples s.ck.rate x.2.delay
    let failed := c.failedPrime x.1
    let q : Queued := ⟨.at due, run, x.1, x.2.body, failed, c.pageOf x.1⟩
    let s := { s with ce := { s.ce with queue := insertQueued q due s.ce.queue } }
    match x.2.body, failed with
    | .startVoice v _, none => s.timeVoice v run (.at due)
    | _, _ => s

/-- The trigger moves the sequence on (04, R90 step 6). -/
def State.moveOn (s : State) (run : Nat) (c : Cue) : State :=
  match c.next with
  | none => { s with ce := { s.ce with seq := .ended, armed := none, pred := none, follow := .idle } }
  | some n =>
    ({ s with ce := { s.ce with armed := none, follow := .idle,
                                pred := some ⟨run, .at s.ck.now, none, false⟩ } }).beginArming false n

/-- A trigger of the armed cue or of the cue of the fire slot (04, R89, R90). -/
def State.trigger (s : State) (fire : Bool) (c : Cue) : State :=
  let s := if fire then s else { s with ce := { s.ce with latched := none, follow := .idle } }
  let (s, run) := s.makeRun c
  let s := s.handOver fire run c
  let s := (c.numbered.filter (·.2.delay == 0)).foldl (State.zeroDelay run c) s
  let s := (c.numbered.filter fun x => !(x.2.delay == 0)).foldl (State.enqueue run c) s
  let s := s.report clsCue repCueGo (w32 run) (w32 c.display) (w32 c.index)
  let s := { s with cu := { s.cu with flash := some (s.ck.now + s.ck.rate / 2 - 1) } }
  let s := if fire then s else s.moveOn run c
  s.examineRun run

/-- The armed cue is triggered, in STANDBY while not frozen. -/
def State.triggerArmed (s : State) : State :=
  match s.ce.armed with
  | some c => if s.ce.seq = .standby ∧ !s.frozen then s.trigger false c else s
  | none => s

/-- The fire slot triggers its cue: its record finishes DONE and it returns to IDLE (04, R94). -/
def State.triggerFire (s : State) (c : Cue) : State :=
  let s := { s with ce := { s.ce with fire := .idle, fireArm := none, fireCue := none } }
  (s.trigger true c).finishJob .fireArm .ok (decide (c.clamps > 0))

/-! ### Armings that complete -/

/-- Every prime of an arming is done (04, R82, R87, R94). -/
def State.armed (s : State) (fire : Bool) (c : Cue) : State :=
  if fire then
    if s.frozen then { s with ce := { s.ce with fire := .waiting, fireArm := none, fireCue := some c } }
    else s.triggerFire c
  else
    let s := { s with ce := { s.ce with seq := .standby, seqArm := none, armed := some c } }
    let s := s.report clsCue repCueArmed (w32 c.index) (w32 c.display) (w32 c.clamps)
    let s := s.finishJob .seqArm .ok (decide (c.clamps > 0))
    if s.ce.latched.isSome ∨ s.ce.follow = .expired then s.triggerArmed else s

/-- The primes of an arming are looked at again. -/
def State.checkPrimes (s : State) (fire : Bool) : State :=
  match s.arming fire with
  | none => s
  | some a => if a.step = .priming ∧ a.cue.primesDone then s.armed fire a.cue else s

/-- Validation has passed and the page blocks have been read: the voices are primed (04, R82). -/
def State.prime (s : State) (fire : Bool) (c : Cue) : State :=
  let r := s.startPrimes fire c
  (r.1.setArming fire (some ⟨{ c with primes := r.2 }, .priming⟩)).checkPrimes fire

/-- The actions have been read: the page blocks follow, or the primes (04, R79). -/
def State.actionsRead (s : State) (fire : Bool) (c : Cue) : State :=
  match c.pageLinks with
  | [] => s.prime fire c
  | l => s.setArming fire (some ⟨c, .pages l⟩)

/-- A read of an arming has returned with data; one that faults counts none of its own clamps (04, R79–R82;
log 36). -/
def State.armData (s : State) (fire : Bool) (a : Arming) (b : List Byte) : State :=
  match a.step with
  | .index =>
    let l := linkAt b 0
    if isEnd l then s.bookFault fire a .absent else s.setArming fire (some { a with step := .header l })
  | .header rec =>
    match readHeader a.cue b with
    | .error why => s.bookFault fire a why
    | .ok c =>
      let s := if fire then s else s.startFollow c
      if c.count = 0 then s.prime fire c else s.setArming fire (some ⟨c, .actions rec⟩)
  | .actions rec =>
    match readActions a.cue b a.cue.batch with
    | .error why => s.bookFault fire a why
    | .ok c =>
      if c.actions.length ≥ c.count then s.actionsRead fire c
      else s.setArming fire (some ⟨c, .actions rec⟩)
  | .pages [] => s
  | .pages ((n, _) :: rest) =>
    let c := { a.cue with pages := a.cue.pages ++ [(n, pageAt b 0)] }
    if rest = [] then s.prime fire c else s.setArming fire (some ⟨c, .pages rest⟩)
  | .priming => s

/-- An arming read returns. One of an abandoned arming brings no data (04, R83, R94, R102); a bus error is a
window fault of the same access (10, R185; log 38). -/
def State.armReturn (s : State) (fire : Bool) (d : ReadData) : State :=
  if s.ml.isOut (.arming fire false) then s.dropRead (.arming fire false) d
  else if !s.ml.isOut (.arming fire true) then s
  else
    match s.arming fire with
    | none => s.dropRead (.arming fire true) d
    | some a =>
      if !s.running then s.dropRead (.arming fire true) d
      else
        let s := { s with ml := s.ml.freeSlot (.arming fire true) }
        match d with
        | .data b => s.armData fire a b
        | .busError =>
          match a.want (s.ce.book.getD endLink) with
          | some (l, _) => (s.windowFault l .cue).bookFault fire a .window
          | none => s

/-- The voice unit's notice of a prime (04, R82; 03, R69). -/
def State.primeNotice (s : State) (fire : Bool) (v : Nat) (st : PrimeStatus) : State :=
  match s.arming fire with
  | none => s
  | some a => (s.setArming fire (some { a with cue := a.cue.setPrime v st })).checkPrimes fire

/-! ### GO and trigger lines -/

def State.ignoreGo (s : State) (src : GoSource) (why : IgnoreReason) : State × Bool :=
  (s.goIgnored src why, false)

/-- A GO, by the state it meets; the flag says that it triggered or was latched (04, R86, R87). -/
def State.goFrom (s : State) (src : GoSource) : State × Bool :=
  if s.frozen then s.ignoreGo src .held
  else
    match s.ce.seq with
    | .standby => (s.triggerArmed, true)
    | .arming =>
      if s.ce.latched.isSome then s.ignoreGo src .pending
      else ({ s with ce := { s.ce with latched := some src } }, true)
    | .ended => s.ignoreGo src .ended
    | .empty => s.ignoreGo src .empty
    | .faulted => s.ignoreGo src .faulted

/-- An event on trigger line n (04, R88). -/
def State.triggerLine (s : State) (n : Nat) : State :=
  match s.ce.armed with
  | some c => if c.trigger = .input n then s.triggerArmed else s
  | none => s

/-- A COUNTING timer whose due sample has been reached (04, R85). -/
def State.followDue (s : State) : Bool :=
  match s.ce.follow with
  | .counting (.at d) => decide (d ≤ s.ck.now) && !s.frozen
  | _ => false

/-- The follow timer expires (04, R85). -/
def State.expireFollow (s : State) : State := (s.setFollow .expired).triggerArmed

/-! ### The freeze condition -/

def Since.freeze (now : Nat) : Since → Since
  | .at e => .passed (now - e)
  | x => x

def Since.thaw (now : Nat) : Since → Since
  | .passed n => .at (now - n)
  | x => x

def Pred.mapSince (p : Pred) (f : Since → Since) : Pred :=
  { p with triggered := f p.triggered, completed := p.completed.map f }

def When.freeze (now : Nat) : When → When
  | .at d => .remaining (d - now)
  | x => x

def When.thaw (now : Nat) : When → When
  | .remaining n => .at (now + n)
  | x => x

def Follow.mapWhen (f : When → When) : Follow → Follow
  | .counting w => .counting (f w)
  | x => x

/-- The due samples of the queue and of the follow timer are turned into remaining counts, or back
(04, R85, R96, R97). -/
def State.mapDue (s : State) (f : When → When) (g : Since → Since) : State :=
  let turn (q : Queued) : Queued := { q with due := f q.due }
  { s with ce := { s.ce with queue := s.ce.queue.map turn, follow := s.ce.follow.mapWhen f,
                             pred := s.ce.pred.map fun p => p.mapSince g } }

/-- The voices of queued START_VOICE actions are timed anew: NOT_YET while frozen, AT(due) after
(03, R69; 04, R96, R97). -/
def State.retimeVoices (s : State) : State :=
  s.ce.queue.foldl (fun s q =>
    match q.body, q.failed with
    | .startVoice v _, none =>
      s.timeVoice v q.run (match q.due with | .at d => .at d | .remaining _ => .notYet)
    | _, _ => s) s

/-- The freeze condition becomes true (04, R96). -/
def State.freezeStart (s : State) : State :=
  let s := s.markFrozen true
  let s := (s.mapDue (When.freeze s.ck.now) (Since.freeze s.ck.now)).retimeVoices
  (s.discardLatch .held).repause

/-- A fire slot in WAITING triggers its cue (04, R94, R97). -/
def State.fireWaiting (s : State) : State :=
  match s.ce.fireCue with
  | some c => if s.ce.fire = .waiting ∧ !s.frozen then s.triggerFire c else s
  | none => s

/-- An EXPIRED follow in STANDBY triggers the armed cue (04, R85, R97). -/
def State.followExpiredNow (s : State) : State :=
  if s.ce.follow = .expired then s.triggerArmed else s

/-- The triggers that the condition held back. Two owed at once are taken in the order of a free value
(04, R97; log 20). -/
def State.takeHeldBack (s : State) : State :=
  let follow := decide (s.ce.follow = .expired) && decide (s.ce.seq = .standby)
  if follow && decide (s.ce.fire = .waiting) then
    let first := Config.fireFirst s.choices
    let s := { s with choices := s.choices + 1 }
    if first then s.fireWaiting.followExpiredNow else s.followExpiredNow.fireWaiting
  else s.followExpiredNow.fireWaiting

/-- The freeze condition ends (04, R97). -/
def State.freezeEnd (s : State) : State :=
  let s := (s.mapDue (When.thaw s.ck.now) (Since.thaw s.ck.now)).retimeVoices
  ((s.markFrozen false).repause).takeHeldBack

/-- What the CE does when the freeze condition has changed from `was` (04, R96, R97). -/
def State.afterFreeze (s : State) (was : Bool) : State :=
  match was, s.frozen with
  | false, true => s.freezeStart
  | true, false => s.freezeEnd
  | _, _ => s

/-- The HOLD flag is written (04, R95). -/
def State.setHold (s : State) (v : Bool) : State :=
  ({ s with ce := { s.ce with hold := v } }).afterFreeze s.frozen

/-! ### Commands -/

/-- LOAD_BOOK (04, R98). -/
def State.loadBook (s : State) (r book : Link) (index : Nat) : State :=
  if book.win > 15 ∨ index > 4095 then s.finish r .range
  else
    let s := (s.abandonSeq.abandonFire)
    let s := { s with ce := { s.ce with book := some book } }
    (s.beginArming false index).hold r 13 .seqArm

/-- GOTO (04, R99). -/
def State.gotoCue (s : State) (r : Link) (index : Nat) : State :=
  if index > 4095 then s.finish r .range
  else if s.ce.seq = .empty then s.finish r .state
  else (s.abandonSeq.beginArming false index).hold r 14 .seqArm

/-- FIRE (04, R94). -/
def State.fireCommand (s : State) (r : Link) (index : Nat) : State :=
  if index > 4095 then s.finish r .range
  else if s.ce.book.isNone then s.finish r .state
  else if s.ce.fire ≠ .idle then s.finish r .busy
  else (s.beginArming true index).hold r 18 .fireArm

/-- STOP_CUES removes a CUE-owned entry: no notice is acted on, and a LEAVING contribution whose remove-fade
goes becomes PRESENT (04, R101; 01, R25). -/
def State.stopCueFade (s : State) (f : Fade) : State :=
  let s := s.setFades (withoutFade s.lv.fades f.target)
  if f.remove then s.revive f.target else s

def isRunOwner : VOwner → Bool
  | .cue _ => true
  | _ => false

/-- STOP_CUES; voices are released in queue order and cut by ascending number (04, R101; log 47). -/
def State.stopCues (s : State) : State :=
  let queue := s.ce.queue
  let s := { s with ce := { s.ce with queue := [] } }
  let s := queue.foldl (fun s q => s.releaseAction q.run q.body) s
  let s := (s.lv.fades.filter fun f => isCueOwner f.owner).foldl State.stopCueFade s
  let s := { s with ce := { s.ce with runs := [] } }
  let s := (oneTo 64).foldl (fun s v => if isRunOwner (s.voice v).owner then s.stopVoice v .cut else s) s
  let s := s.abandonFire
  let off (p : Pred) : Pred := { p with followOff := true }
  { s with ce := { s.ce with follow := .idle, pred := s.ce.pred.map off } }

/-- A cue voice has played frame 0: its START_VOICE action has executed, and leaves the queue
(03, R60; log 18). -/
def State.voiceActionDone (s : State) (v run : Nat) : State :=
  let isIt := fun (q : Queued) =>
    q.run == run && q.failed.isNone && (match q.body with | .startVoice w _ => w == v | _ => false) &&
      (match q.due with | .at d => decide (d ≤ s.ck.now) | .remaining _ => false)
  if s.ce.queue.any isIt then
    ({ s with ce := { s.ce with queue := s.ce.queue.eraseP isIt } }).examineRun run
  else s

end Sys2Proof.Machine
end

