-- ==== Sys2Proof/Machine/Interlock.lean ====
section
/-! DEFINITION. The interlock controller: its states and their events (07, R149–R157) and RESUME
(07, R155). -/

namespace Sys2Proof.Machine

/-- The 56 INTERLOCK targets (07, R149), in the order in which their fades are asked for (log 48). -/
def interlockTargets : List Target :=
  (List.range 24).map Target.busInterlock ++ (oneTo 32).map Target.zoneInterlock

/-- The contact input routed to INTERLOCK, or 0 (07, R153, R154, R156). -/
def State.interlockInput (s : State) : Nat :=
  match s.cu.routes.find? (·.fn == .interlock) with
  | some r => r.input
  | none => 0

def State.setIl (s : State) (st : IlState) : State := { s with il := { s.il with st := st } }

/-- INTERLOCK_ON, its cause bit and the activation sample (07, R153, R154). -/
def State.interlockOn (s : State) (from_ : IlState) (ended : Nat) : State :=
  let s := { s with il := { s.il with activation := s.ck.now } }
  (s.report clsSystem repInterlockOn (w32 s.interlockInput) (w32 (ilCode from_)) (w32 ended)).setCause
    causeInterlock

/-- Entry to ACTIVE from CLEAR or RESUMING (07, R152, R153, R157). -/
def State.activate (s : State) : State :=
  let from_ := s.il.st
  let was := s.frozen
  let s := { s with il := { s.il with st := .active, resumeSet := [] } }
  let s := interlockTargets.foldl (fun s t => s.fadeTo t off 250 .linear .interlock) s
  let (s, ended) := s.endLowPages
  let s := (s.afterFreeze was).repause
  s.interlockOn from_ ended

/-- An activation of the INTERLOCK function (07, R151). -/
def State.interlockActivation (s : State) : State :=
  match s.il.st with
  | .clear => s.activate
  | .resuming => s.activate
  | .latched => (s.setIl .active).interlockOn .latched 0
  | .active => s

/-- A deactivation of the INTERLOCK function (07, R154). -/
def State.interlockDeactivation (s : State) : State :=
  match s.il.st with
  | .active =>
    (s.setIl .latched).report clsSystem repInterlockLatched (w32 s.interlockInput)
      (w32 (s.ck.now - s.il.activation)) 0
  | _ => s

/-- The resume set is empty: the state becomes CLEAR (07, R156). -/
def State.checkResumed (s : State) : State :=
  if s.il.st = .resuming ∧ s.il.resumeSet = [] then
    (s.setIl .clear).report clsSystem repInterlockResumed (w32 s.interlockInput) (w32 s.il.resumeUsed)
      (w32 (if s.frozen then 1 else 0))
  else s

/-- A target is asked to return to 0; one whose fade was entered joins the resume set (07, R156). -/
def State.resumeTarget (s : State) (t : Target) : State :=
  let s := s.fadeOrSet t 0 s.il.resumeTime .linear .interlock
  if (s.fadeOn t).isSome then { s with il := { s.il with resumeSet := s.il.resumeSet ++ [t] } } else s

/-- Entry to RESUMING from LATCHED (07, R156). -/
def State.beginResume (s : State) : State :=
  let was := s.frozen
  let s := { s with il := { s.il with st := .resuming, resumeSet := [], resumeUsed := s.il.resumeTime } }
  let s := interlockTargets.foldl State.resumeTarget s
  ((s.afterFreeze was).repause).checkResumed

/-- A notice for an INTERLOCK-owned entry (07, R156). A notice whose target has an entry again is stale. -/
def State.interlockNotice (s : State) (t : Target) (c : FadeCause) : State :=
  if c = .completed ∧ s.il.st = .resuming ∧ (s.fadeOn t).isNone then
    ({ s with il := { s.il with resumeSet := s.il.resumeSet.filter fun x => !(x == t) } }).checkResumed
  else s

/-- A resume time: above 60 000 it is taken as 60 000 (07, R155). -/
def readResume (t : Nat) : Nat × Bool := if t > 60000 then (60000, true) else (t, false)

/-- RESUME (07, R155). -/
def State.applyResume (s : State) (time : Option Nat) : Except Fail (State × Bool) :=
  let w := readOr time s.il.resumeTime readResume
  let t := { s with il := { s.il with resumeTime := w.1 } }
  match s.il.st with
  | .active => .error { res := .state, why := .active, clamped := w.2 }
  | .latched => .ok (t.beginResume, w.2)
  | _ => .ok (t, w.2)

end Sys2Proof.Machine
end

