-- ==== Sys2Proof/Machine/ContactUnit.lean ====
section
/-! DEFINITION. The contact unit: functions and their deliveries (08, R161, R162), input changes (08, R159,
R160, R165), contact outputs (08, R167, R168) and its commands (08, R163, R164, R166, R169). -/

namespace Sys2Proof.Machine

/-! ### Functions -/

/-- Function codes: positions in R161 (11, R189). -/
def funcOf (c : Nat) : Option Func :=
  match c with
  | 0 => some .go
  | 1 => some .hold
  | 2 => some .talk
  | 3 => some .interlock
  | 4 => some .mark
  | c => if c ≤ 12 then some (.page (c - 4)) else if c ≤ 20 then some (.trig (c - 12)) else none

def funcCode : Func → Nat
  | .go => 0
  | .hold => 1
  | .talk => 2
  | .interlock => 3
  | .mark => 4
  | .page n => 4 + n
  | .trig n => 12 + n

/-- Polarity codes: positions in the table of R161 (11, R189). -/
def polarityOf (c : Nat) : Option Polarity :=
  match c with
  | 0 => some .closed
  | 1 => some .opened
  | 2 => some .default
  | _ => none

/-- Is a function active at this contact state under this polarity (08, R161)? -/
def activeAt (fn : Func) (pol : Polarity) (closed : Bool) : Bool :=
  match pol with
  | .closed => closed
  | .opened => !closed
  | .default => if fn = .interlock then !closed else closed

/-- Edge functions act on activation alone (08, R162). -/
def isEdge : Func → Bool
  | .go => true
  | .trig _ => true
  | .mark => true
  | _ => false

/-- The debounced states of C1–C24 as a set (08, R162; 11, R199). -/
def State.closedSet (s : State) : BitVec 24 := setOf 24 fun c => (s.input c).closed

/-- The debounced states of C1–C16 (08, R165). -/
def State.pattern (s : State) : BitVec 16 := setOf 16 fun c => (s.input c).closed

/-- The delivery of a function's change to its block (08, R162). -/
def State.deliver (s : State) (fn : Func) (input : Nat) (active : Bool) : State :=
  match fn, active with
  | .go, true => (s.goFrom .contact).1
  | .trig n, true => s.triggerLine n
  | .mark, true => s.report clsSystem repMark 0 (w32 input) (s.closedSet.setWidth 32)
  | .hold, b => s.setHold b
  | .talk, b => s.setTalkFn b
  | .page n, true => s.pressPage n
  | .page n, false => s.releasePage n
  | .interlock, true => s.interlockActivation
  | .interlock, false => s.interlockDeactivation
  | _, false => s

def State.setRoutes (s : State) (l : List Route) : State := { s with cu := { s.cu with routes := l } }

def setActive (l : List Route) (fn : Func) (b : Bool) : List Route :=
  l.map fun r => if r.fn == fn then { r with active := b } else r

/-- A routed function takes its state from its input, with its delivery on a change (08, R161, R162). -/
def State.followInput (s : State) (fn : Func) : State :=
  match s.cu.routes.find? (·.fn == fn) with
  | none => s
  | some r =>
    let now := activeAt r.fn r.pol (s.input r.input).closed
    if now = r.active then s else (s.setRoutes (setActive s.cu.routes fn now)).deliver fn r.input now

/-! ### The pattern watcher -/

/-- Does every watched input match its compare value (08, R165)? -/
def State.patternEqual (s : State) : Bool := (s.pattern &&& s.cu.mask) == (s.cu.compare &&& s.cu.mask)

/-- A watcher action as a report detail: a TRIG carries its line in the byte above the code (11, R197). -/
def patternActionWord : PatternAction → Word
  | .report => 0
  | .go => 1
  | .trig n => w32 (2 + 256 * n)

/-- A firing (08, R165): mode code 0 EVENT, 1 MATCH. -/
def State.firePattern (s : State) (mode : Nat) : State :=
  let s := s.report clsSystem repInputPattern (w32 mode) (s.pattern.setWidth 32)
    (patternActionWord s.cu.action)
  match s.cu.action with
  | .report => s
  | .go => (s.goFrom .pattern).1
  | .trig n => s.triggerLine n

/-- The watcher at a change of input `c` (08, R165). -/
def State.watch (s : State) (c : Nat) : State :=
  if c > 16 then s
  else
    match s.cu.mode with
    | .off => s
    | .event => if inSet s.cu.mask c then s.firePattern 0 else s
    | .matching =>
      let now := s.patternEqual
      let was := s.cu.equal
      let s := { s with cu := { s.cu with equal := now } }
      if now && !was then s.firePattern 1 else s

/-! ### Input changes -/

/-- The debounce time of an input in samples: 20 ms at least for the INTERLOCK input (08, R159). -/
def State.debounceSamples (s : State) (c : Nat) : Nat :=
  let t := (s.input c).time
  (if s.interlockInput = c then max t 20 else t) * s.ck.rate / 1000

/-- The functions routed to an input, in the order asked for, then in the order of R161 (log 21). -/
def State.routed (s : State) (c : Nat) (first : List Nat) : List Func :=
  let all := (first ++ List.range 21).eraseDups.filterMap funcOf
  all.filter fun f => s.cu.routes.any fun r => r.fn == f && r.input == c

/-- An input change (08, R159, R160, R162, R165). The order of its deliveries, and how many of them come before
the watcher acts, are given by the operands (log 21). -/
def State.inputChange (s : State) (c watcherAt : Nat) (first : List Nat) : State :=
  let x := s.input c
  let closed := !x.closed
  let edge := x.edge || (if closed then x.rise else x.fall)
  let s := s.setInput c { x with closed := closed, count := 0, edge := edge, due := false }
  let fs := s.routed c first
  (fs.drop watcherAt).foldl State.followInput (((fs.take watcherAt).foldl State.followInput s).watch c)

/-- One sample of the debounce of an input (08, R159). A change that has fallen due stays due when the time is
made longer before it is taken (log 35). -/
def debounceStep (x : Input) (raw : Bool) (limit : Nat) : Input :=
  if raw = x.closed then { x with count := 0, due := false }
  else { x with count := x.count + 1, due := decide (limit ≤ x.count + 1) }

/-- The inputs at a sample of RUNNING (08, R159). -/
def State.debounce (s : State) (raw : BitVec 24) : State :=
  (oneTo 24).foldl (fun s c => s.setInput c (debounceStep (s.input c) (inSet raw c) (s.debounceSamples c))) s

/-- The first sample of RUNNING (08, R159). -/
def State.firstInputs (s : State) (raw : BitVec 24) : State :=
  (oneTo 24).foldl (fun s c =>
    s.setInput c { s.input c with closed := inSet raw c, count := 0, due := false }) s

/-! ### Outputs -/

/-- Is the flash window running (08, R168)? -/
def State.flashing (s : State) : Bool :=
  match s.cu.flash with
  | some e => decide (s.ck.now ≤ e)
  | none => false

/-- Is the STANDBY source on (04, R84; 08, R167)? -/
def State.standbyLight (s : State) : Bool :=
  s.ce.seq == .standby && !s.frozen &&
    (match s.ce.armed with | some c => c.trigger == .manual | none => false)

/-- Is a source on (08, R167)? -/
def State.sourceOn (s : State) (o : Output) : Bool :=
  match o.source with
  | .off => false
  | .on => true
  | .standby => s.standbyLight
  | .goFlash => s.flashing
  | .clockFault => s.ck.st == .intFallback || s.ck.st == .extWarn
  | .interlock => s.il.st != .clear
  | .onAir g => inSet s.rc.onAir g
  | .cueSet => o.cueValue

/-- Is contact output `k` closed (08, R167)? Only while RUNNING. -/
def State.contactClosed (s : State) (k : Nat) : Bool := s.running && s.sourceOn (s.output k)

/-- Output source codes: positions in the table of R167 (11, R189). -/
def sourceOf (c group : Nat) : Option OutSource :=
  match c with
  | 0 => some .off
  | 1 => some .on
  | 2 => some .standby
  | 3 => some .goFlash
  | 4 => some .clockFault
  | 5 => some .interlock
  | 6 => if 1 ≤ group ∧ group ≤ 8 then some (.onAir group) else none
  | 7 => some .cueSet
  | _ => none

/-! ### Commands -/

/-- A delivery that a route write owes: function, input, and whether it is an activation. -/
abbrev Owed := Option (Func × Nat × Bool)

/-- SET_ROUTE to NONE: the route goes, and the deactivation of an active level function is owed
(08, R163). -/
def State.unroute (s : State) (fn : Func) : State × Owed :=
  match s.cu.routes.find? (·.fn == fn) with
  | none => (s, none)
  | some r =>
    (s.setRoutes (s.cu.routes.filter fun x => !(x.fn == fn)),
      if r.active && !isEdge fn then some (fn, r.input, false) else none)

/-- A route is written in its place or at the end, with the function's old state. -/
def writeRoute (l : List Route) (r : Route) : List Route :=
  if l.any (·.fn == r.fn) then l.map fun x => if x.fn == r.fn then r else x else l ++ [r]

/-- SET_ROUTE to an input (08, R163): the delivery of a level function whose state changes is owed, that of
an edge function is not. -/
def State.route (s : State) (fn : Func) (c : Nat) (pol : Polarity) : State × Owed :=
  let old := (match s.cu.routes.find? (·.fn == fn) with | some r => r.active | none => false)
  let now := activeAt fn pol (s.input c).closed
  (s.setRoutes (writeRoute s.cu.routes ⟨fn, c, pol, now⟩),
    if old = now ∨ isEdge fn then none else some (fn, c, now))

/-- The delivery owed by a route write is made (08, R162, R163). -/
def State.deliverOwed (s : State) : Owed → State
  | some (fn, c, now) => s.deliver fn c now
  | none => s

/-- Another route stands in the way of INTERLOCK on this input, or INTERLOCK in the way of this route
(08, R163). -/
def State.inputShared (s : State) (fn : Func) (c : Nat) : Bool :=
  if fn = .interlock then s.cu.routes.any fun r => r.fn != .interlock && r.input == c
  else s.cu.routes.any fun r => r.fn == .interlock && r.input == c

/-- SET_ROUTE (08, R163), with the delivery it owes; input code 0 is NONE (log 15). -/
def State.applySetRoute (s : State) (function input polarity : Nat) : Except Fail (State × Owed) :=
  match funcOf function, polarityOf polarity with
  | some fn, some pol =>
    if input > 24 then .error { res := .range }
    else if input = 0 then .ok (s.unroute fn)
    else if s.inputShared fn input then .error { res := .state, why := .interlockInput }
    else if (s.cu.routes.all fun r => r.fn != fn) ∧ s.cu.routes.length ≥ Config.routeCapacity then
      .error { res := .full }
    else .ok (s.route fn input pol)
  | _, _ => .error { res := .range }

/-- A debounce time: 0 is taken as 1, above 255 as 255 (08, R164). -/
def readDebounce (t : Nat) : Nat × Bool := if t = 0 then (1, true) else if t > 255 then (255, true) else (t, false)

/-- An edge enable: 0 YES, 1 NO (log 15). -/
def enableOr (f : Option Nat) (old : Bool) : Bool := match f with | some v => v == 0 | none => old

/-- SET_INPUT (08, R164). -/
def State.applySetInput (s : State) (c : Nat) (debounce rise fall : Option Nat) :
    Except Fail (State × Bool) :=
  if ¬ (1 ≤ c ∧ c ≤ 24) ∨ !twoValued rise ∨ !twoValued fall then .error { res := .range }
  else
    let x := s.input c
    let t := readOr debounce x.time readDebounce
    .ok (s.setInput c { x with time := t.1, rise := enableOr rise x.rise, fall := enableOr fall x.fall }, t.2)

/-- Watcher modes and actions, by their codes (08, R165; 11, R189). -/
def patternModeOf (c : Nat) : Option PatternMode :=
  match c with
  | 0 => some .off
  | 1 => some .event
  | 2 => some .matching
  | _ => none

def patternActionOf (c line : Nat) : Option PatternAction :=
  match c with
  | 0 => some .report
  | 1 => some .go
  | 2 => if 1 ≤ line ∧ line ≤ 8 then some (.trig line) else none
  | _ => none

/-- SET_PATTERN (08, R166). -/
def State.applySetPattern (s : State) (mode : Nat) (mask compare : BitVec 16) (action line : Nat) :
    Except Fail (State × Bool) :=
  match patternModeOf mode, patternActionOf action line with
  | some m, some a =>
    let s := { s with cu := { s.cu with mode := m, mask := mask, compare := compare, action := a } }
    .ok ({ s with cu := { s.cu with equal := s.patternEqual } }, false)
  | _, _ => .error { res := .range }

/-- SET_OUTPUT (08, R169). -/
def State.applySetOutput (s : State) (k source group : Nat) : Except Fail (State × Bool) :=
  match sourceOf source group with
  | none => .error { res := .range }
  | some o =>
    if ¬ (1 ≤ k ∧ k ≤ 16) then .error { res := .range }
    else .ok (s.setOutput k { s.output k with source := o }, false)

end Sys2Proof.Machine
end

