-- ==== Sys2Proof/Machine/ClockUnit.lean ====
section
/-! DEFINITION. The clock unit: changeovers (09, R175), the monitor and the clock states (09, R172, R174), and
its commands (09, R173, R176, R177). -/

namespace Sys2Proof.Machine

def State.setCk (s : State) (c : Ck) : State := { s with ck := c }

def State.setClockState (s : State) (st : ClockState) : State := s.setCk { s.ck with st := st }

/-- The first control-period boundary after a sample (09, R175; 02, R43). -/
def nextBoundary (n : Nat) : Nat := (n / 64 + 1) * 64

/-! ### Changeovers -/

/-- The named boundary has been reached (09, R175). -/
def State.boundaryDue (s : State) : Bool :=
  match s.ck.silentNext with
  | some b => decide (b ≤ s.ck.now)
  | none => false

/-- From the boundary on, the selected reference is in use and its period is silent (09, R175). -/
def State.takeBoundary (s : State) : State :=
  if s.boundaryDue then
    s.setCk { s.ck with external := s.ck.selected, silentNow := s.ck.silentNext, silentNext := none }
  else s

/-- A changeover to a reference; one to the reference already selected is none (09, R175). -/
def State.changeover (s : State) (ext : Bool) : State :=
  let s := s.takeBoundary
  if s.ck.selected = ext then s
  else
    s.setCk { s.ck with selected := ext, changeovers := (s.ck.changeovers + 1) % 2 ^ 32,
                        silentNext := some (nextBoundary s.ck.now) }

/-- CLOCK_CHANGEOVER (09, R174, R177): cause 0 DEVIATION, 1 LOSS, 2 SELECTED. -/
def State.postChangeover (s : State) (cause : Nat) (d : Int) : State :=
  s.report clsSystem repClockChangeover (w32 cause) (w32i d) (w32 s.ck.changeovers)

/-- The entry to INT_FALLBACK (09, R174). -/
def State.fallBack (s : State) (cause : Nat) (d : Int) : State :=
  (((s.setClockState .intFallback).changeover false).postChangeover cause d).setCause causeClock

/-! ### The clock states -/

/-- EXT_ACQUIRING is entered; the window now running will not count (09, R174, R176). -/
def State.beginAcquire (s : State) : State :=
  s.setCk { s.ck with st := .extAcquiring, good := 0, acqFresh := true }

/-- The entry to EXT_GOOD from EXT_ACQUIRING (09, R174, R176). -/
def State.relocked (s : State) (d : Int) : State :=
  let s := (s.setClockState .extGood).changeover true
  (s.report clsSystem repClockRelocked 0 (w32i d) (w32 s.ck.changeovers)).finishJob .relock .ok

/-- A window in EXT_ACQUIRING (09, R174). -/
def State.acquireWindow (s : State) (d : Int) : State :=
  if s.ck.acqFresh then s.setCk { s.ck with acqFresh := false }
  else if d.natAbs < s.ck.warn - s.ck.hyst then
    let s := s.setCk { s.ck with good := s.ck.good + 1 }
    if s.ck.good ≥ 2 then s.relocked d else s
  else s.setCk { s.ck with good := 0 }

/-- The state machine judges the deviation of a window (09, R174). -/
def State.judgeWindow (s : State) (d : Int) : State :=
  match s.ck.st with
  | .extGood =>
    if d.natAbs < s.ck.warn then s
    else if d.natAbs < s.ck.change then
      (s.setClockState .extWarn).report clsSystem repClockWarn 0 (w32i d) (w32 s.ck.warn)
    else s.fallBack 0 d
  | .extWarn =>
    if d.natAbs < s.ck.warn - s.ck.hyst then s.setClockState .extGood
    else if d.natAbs < s.ck.change then s
    else s.fallBack 0 d
  | .extAcquiring => s.acquireWindow d
  | .intFallback => s
  | .intSelected => s

/-- The deviation of a window with `n` edges, in ppm (09, R172). -/
def deviationOf (n rate : Nat) : Int := (((n : Int) - (rate : Int)) * 1000000).tdiv (rate : Int)

/-- The end of a measurement window (09, R172, R174). -/
def State.windowEnd (s : State) : State :=
  let d := deviationOf s.ck.edges s.ck.rate
  (s.setCk { s.ck with deviation := d, edges := 0, windowPos := s.ck.windowPos - s.ck.rate }).judgeWindow d

/-- A loss event (09, R172, R174). -/
def State.lossEvent (s : State) : State :=
  if s.ck.lossRaised then s
  else
    let s := s.setCk { s.ck with lossRaised := true }
    match s.ck.st with
    | .extGood => s.fallBack 1 0
    | .extWarn => s.fallBack 1 0
    | _ => s

/-- The measurement window has run its rate periods (09, R172). -/
def State.windowDue (s : State) : Bool := decide (s.ck.rate ≤ s.ck.windowPos)

/-- The gap has reached 10 ms (09, R172). -/
def State.lossDue (s : State) : Bool := !s.ck.lossRaised && decide (s.ck.rate / 100 ≤ s.ck.gap)

/-- A rising edge of the word-clock input (09, R172). A window that has already run its periods ends before the
edge, which counts in the next; a loss event that the gap has already reached is raised before the edge restarts
the gap (log 9). -/
def State.clockEdge (s : State) : State :=
  let s := if s.windowDue then s.windowEnd else s
  let s := if s.lossDue then s.lossEvent else s
  s.setCk { s.ck with edges := min (s.ck.edges + 1) (2 * s.ck.rate), gap := 0, lossRaised := false }

/-- Periods of the internal oscillator pass (09, R172). -/
def State.oscillate (s : State) (n : Nat) : State :=
  s.setCk { s.ck with windowPos := s.ck.windowPos + n, gap := s.ck.gap + n }

/-! ### Commands -/

/-- A limit is taken within 10..10 000 ppm (09, R173). -/
def clampLimit (v : Nat) : Nat := min (max v 10) 10000

/-- SET_CLOCK_LIMITS (09, R173). -/
def State.applyClockLimits (s : State) (warn change hyst : Option Nat) : State × Bool :=
  let w0 := warn.getD s.ck.warn
  let c0 := change.getD s.ck.change
  let h0 := hyst.getD s.ck.hyst
  let w := clampLimit w0
  let c := max (clampLimit c0) w
  let h := min h0 (w - 1)
  (s.setCk { s.ck with warn := w, change := c, hyst := h }, w != w0 || c != c0 || h != h0)

/-- The state change of RELOCK and of SELECT_CLOCK EXTERNAL (09, R176). -/
def State.acquire (s : State) : State :=
  match s.ck.st with
  | .intFallback => s.beginAcquire
  | .intSelected => s.beginAcquire
  | _ => s

/-- RELOCK (09, R176). -/
def State.relock (s : State) (r : Link) : State :=
  match s.ck.st with
  | .extGood => s.finish r .ok
  | .extWarn => s.finish r .ok
  | _ => s.acquire.hold r 35 .relock

/-- SELECT_CLOCK INTERNAL (09, R177). -/
def State.selectInternal (s : State) : State :=
  match s.ck.st with
  | .extGood => ((s.setClockState .intSelected).changeover false).postChangeover 2 0
  | .extWarn => ((s.setClockState .intSelected).changeover false).postChangeover 2 0
  | .extAcquiring => (s.setClockState .intSelected).finishJob .relock .aborted
  | .intFallback => s.setClockState .intSelected
  | .intSelected => s

/-- SELECT_CLOCK (09, R176, R177): 0 INTERNAL, 1 EXTERNAL. -/
def State.applySelectClock (s : State) (value : Nat) : Except Fail (State × Bool) :=
  match value with
  | 0 => .ok (s.selectInternal, false)
  | 1 => .ok (s.acquire, false)
  | _ => .error { res := .range }

end Sys2Proof.Machine
end

