-- ==== Sys2Proof/Machine/Settle.lean ====
section
/-! DEFINITION. The notices that blocks send one another, acted on after the operation that raised them, in
the order raised (01, R15; 03, R68, R69; 06, R130; log 22). -/

namespace Sys2Proof.Machine

/-- A notice is acted on by the block it goes to. -/
def State.notice (s : State) : Notice → State
  | .fade (.cue run) _ _ => s.examineRun run
  | .fade (.relay z) _ c => s.duckNotice z c
  | .fade .interlock t c => s.interlockNotice t c
  | .fade .host _ _ => s
  | .fade (.scene _) _ _ => s
  | .fade .talk _ _ => s
  | .primed v fire => s.primeNotice fire v .primed
  | .primeLost v fire => s.primeNotice fire v (.failed .notPrimed)
  | .pageStarted id v => s.pageStarted id v
  | .pagePartEnded _ _ => s
  | .pageVoiceEnded id v c => s.pageVoiceEnded id v c
  | .scan => s.scan

/-- At most `n` notices are acted on; what is left stays for the next operation. -/
def State.settleN : Nat → State → State
  | 0, s => s
  | n + 1, s =>
    match s.notices with
    | [] => s
    | x :: rest => State.settleN n (({ s with notices := rest }).notice x)

/-- The notices of an operation are acted on. -/
def State.settle (s : State) : State := State.settleN 8192 s

end Sys2Proof.Machine
end

