-- ==== Sys2Proof/Machine/Commands.lean ====
section
/-! DEFINITION. The meanings of the 39 chain commands (11, R195): each acts by its own rule and writes the
outcome into its record, or puts the record in flight (11, R192). -/

namespace Sys2Proof.Machine

/-! ### Level unit (01, R23–R25) -/

def cmdSetLevel (r : Link) (t : TargetField) (mode : Nat) (level : Int) (s : State) : State :=
  s.answer r (s.applySetLevel t mode level)

def cmdFade (r : Link) (t : TargetField) (mode : Nat) (level : Int) (dur law : Nat) (s : State) : State :=
  s.answer r (s.applyFade t mode level dur law .host)

def cmdStopFade (r : Link) (t : TargetField) (s : State) : State := s.answer r (s.applyStopFade t)

/-! ### Mix matrix (02, R44–R47) -/

/-- SET_SOURCE (02, R44): 0 MUTE, 1 UNMUTE. -/
def State.applySetSource (s : State) (c mute : Nat) : Except Fail (State × Bool) :=
  if c > 122 ∨ mute > 1 then .error { res := .range }
  else .ok ({ s with mx := { s.mx with mute := tset s.mx.mute c (mute == 0) } }, false)

def cmdSetSource (r : Link) (c mute : Nat) (s : State) : State := s.answer r (s.applySetSource c mute)

/-- SET_BUS (02, R45): the mute value is left by the leave mask or by its code, 0 LEAVE, 1 MUTE, 2 UNMUTE;
clear-clip 0 yes, 1 no (log 15). -/
def State.applySetBus (s : State) (b : Nat) (mute : Option Nat) (clear : Nat) : Except Fail (State × Bool) :=
  let m := mute.getD 0
  if b > 24 ∨ m > 2 ∨ clear > 1 then .error { res := .range }
  else
    let u := s.bus b
    .ok (s.setBus b { u with mute := if m = 0 then u.mute else m == 1,
                             clip := if clear = 0 then 0 else u.clip }, false)

def cmdSetBus (r : Link) (b : Nat) (mute : Option Nat) (clear : Nat) (s : State) : State :=
  s.answer r (s.applySetBus b mute clear)

def cmdSetContrib (r : Link) (b c : Nat) (level : Int) (tap dur law : Nat) (s : State) : State :=
  s.answer r (s.applySetContrib b c level tap dur law .host)

def cmdRemoveContrib (r : Link) (b c dur law : Nat) (s : State) : State :=
  s.answer r (s.applyRemoveContrib b c dur law .host)

/-! ### Voice unit (03, R70–R74) -/

/-- START_VOICE (03, R70). -/
def cmdStartVoice (r : Link) (v : Nat) (d : DescField) (delay : Nat) (s : State) : State :=
  if !voiceNumber v then s.finish r .range
  else
    match descOf d with
    | none => s.finish r .range
    | some (e, c1) =>
      let (ms, c2) := readDelay delay
      let start : VStart := if ms = 0 then .whenPrimed else .at (s.ck.now + delaySamples s.ck.rate ms)
      match s.requestStart v ⟨.host, e, none, start⟩ with
      | .error f => s.finish r f.res f.why (c1 || c2)
      | .ok (t, held) => t.hold r 8 (.startVoice v held) (c1 || c2)

def cmdStopVoice (r : Link) (v mode frames : Nat) (s : State) : State :=
  s.answer r (s.applyStopVoice v mode frames)

/-- TEARDOWN_VOICE (03, R72). -/
def cmdTeardownVoice (r : Link) (v : Nat) (s : State) : State :=
  if !voiceNumber v then s.finish r .range
  else if s.pageOwned v then s.finish r .reserved
  else if (s.voice v).st = .free then s.finish r .ok
  else (s.hold r 10 (.teardown v)).teardown v

/-- SET_RESERVE (03, R73). A set of 64 voices names no number outside 1–64. -/
def State.applySetReserve (s : State) (voices : BitVec 64) : Except Fail (State × Bool) :=
  if (oneTo 64).any (fun v => inSet voices v != s.reserved v && (s.voice v).st != .free) then
    .error { res := .state }
  else
    let added := (oneTo 64).any fun v =>
      inSet voices v && !s.reserved v && (s.voice v).st == .free && s.scheduled v
    let s := { s with vu := { s.vu with reserve := voices } }
    .ok (if added then s.tell .scan else s, false)

def cmdSetReserve (r : Link) (voices : BitVec 64) (s : State) : State := s.answer r (s.applySetReserve voices)

/-- SET_SCHEDULE (03, R74). -/
def State.applySetSchedule (s : State) (count : Nat) (voices : List Nat) : Except Fail (State × Bool) :=
  if count > 64 ∨ !(voices.all voiceNumber) then .error { res := .range }
  else if !voices.isEmpty ∧
      (oneTo 64).any (fun v => (s.voice v).st != .free && !voices.contains v) then .error { res := .state }
  else
    let t := { s with vu := { s.vu with table := voices, index := 0 } }
    let added := (oneTo 64).any fun v => t.available v && !s.scheduled v
    .ok (if added then t.tell .scan else t, false)

def cmdSetSchedule (r : Link) (count : Nat) (voices : List Nat) (s : State) : State :=
  s.answer r (s.applySetSchedule count voices)

/-! ### Cue engine (04, R94–R101) -/

def cmdLoadBook (r book : Link) (index : Nat) (s : State) : State := s.loadBook r book index
def cmdGoto (r : Link) (index : Nat) (s : State) : State := s.gotoCue r index

/-- GO (04, R100). -/
def cmdGo (r : Link) (s : State) : State :=
  let (t, taken) := s.goFrom .command
  t.finish r (if taken then .ok else .state)

def cmdHold (r : Link) (s : State) : State := (s.setHold true).finish r .ok
def cmdRelease (r : Link) (s : State) : State := (s.setHold false).finish r .ok
def cmdFire (r : Link) (index : Nat) (s : State) : State := s.fireCommand r index
def cmdStopCues (r : Link) (s : State) : State := s.stopCues.finish r .ok

/-! ### Foldback controller (05, R116, R121, R122) -/

def cmdSetFoldback (r : Link) (m : Nat) (f : FoldbackField) (s : State) : State :=
  s.answer r (s.applySetFoldback m f)

def cmdRecallScene (r scene : Link) (dur law : Nat) (s : State) : State := s.commandRecall r scene dur law
def cmdTalk (r : Link) (value : Nat) (s : State) : State := s.answer r (s.applyTalk value)

/-! ### Relay controller (06, R140, R141, R144, R146, R147) -/

def cmdSetZone (r : Link) (z : Nat) (f : ZoneField) (s : State) : State := s.answer r (s.applySetZone z f)

def cmdSetPageButton (r : Link) (b unset : Nat) (f : ButtonField) (s : State) : State :=
  s.answer r (s.applySetButton b unset f)

def cmdStartPage (r : Link) (p : PageField) (s : State) : State := s.startPage r p
def cmdEndPage (r : Link) (id : Nat) (s : State) : State := s.answer r (s.applyEndPage id)
def cmdCancelPage (r : Link) (id : Nat) (s : State) : State := s.answer r (s.applyCancelPage id)

/-! ### Interlock controller (07, R155) -/

def cmdResume (r : Link) (time : Option Nat) (s : State) : State := s.answer r (s.applyResume time)

/-! ### Contact unit (08, R163, R164, R166, R169) -/

/-- SET_ROUTE (08, R163): the record is DONE, then the change of the function is delivered. -/
def cmdSetRoute (r : Link) (function input polarity : Nat) (s : State) : State :=
  match s.applySetRoute function input polarity with
  | .ok (t, owed) => (t.finish r .ok).deliverOwed owed
  | .error f => s.finish r f.res f.why f.clamped

def cmdSetInput (r : Link) (c : Nat) (debounce rise fall : Option Nat) (s : State) : State :=
  s.answer r (s.applySetInput c debounce rise fall)

def cmdSetPattern (r : Link) (mode : Nat) (mask compare : BitVec 16) (action line : Nat) (s : State) : State :=
  s.answer r (s.applySetPattern mode mask compare action line)

def cmdSetOutput (r : Link) (k source group : Nat) (s : State) : State :=
  s.answer r (s.applySetOutput k source group)

/-! ### Clock unit (09, R173, R176, R177) -/

def cmdSetClockLimits (r : Link) (warn change hyst : Option Nat) (s : State) : State :=
  s.answer r (.ok (s.applyClockLimits warn change hyst))

def cmdSelectClock (r : Link) (value : Nat) (s : State) : State := s.answer r (s.applySelectClock value)
def cmdRelock (r : Link) (s : State) : State := s.relock r

/-! ### Memory link (10, R186; 11, R200) -/

/-- LOAD_WINDOWS (10, R186). -/
def cmdLoadWindows (r : Link) (addr : Wide) (count : Nat) (s : State) : State :=
  if count = 0 ∨ count > 16 ∨ addr.toNat % 16 ≠ 0 then s.finish r .range
  else
    let s := s.hold r 36 .loadWindows
    { s with ml := { s.ml with loads := s.ml.loads ++ [⟨r, addr.toNat, count⟩] } }

/-- A poll interval is taken within 100..100 000 microseconds (10, R182; 11, R200). -/
def clampPoll (t : Nat) : Nat := min (max t 100) 100000

/-- SET_POLL (11, R200). -/
def cmdSetPoll (r : Link) (t : Nat) (s : State) : State :=
  s.answer r (.ok ({ s with ml := { s.ml with pollInterval := clampPoll t, pollStart := s.ck.now } },
    clampPoll t != t))

/-- CLEAR_FLAGS (11, R200): bit 0 CLAMP, bit 1 EDGE. -/
def State.applyClearFlags (s : State) (flags : BitVec 8) : Except Fail (State × Bool) :=
  if flags = 0 ∨ flags &&& 0xFC#8 ≠ 0 then .error { res := .range }
  else
    let s := if flags.getLsbD 0 then
      { s with mx := { s.mx with buses := s.mx.buses.map fun u => { u with clamp := false } } } else s
    let s := if flags.getLsbD 1 then
      { s with cu := { s.cu with inputs := s.cu.inputs.map fun x => { x with edge := false } } } else s
    .ok (s, false)

def cmdClearFlags (r : Link) (flags : BitVec 8) (s : State) : State := s.answer r (s.applyClearFlags flags)

/-- MARK (11, R200). -/
def cmdMark (r : Link) (value : Word) (s : State) : State :=
  s.answer r (.ok (s.report clsSystem repMark 0 0 value, false))

/-! ### The catalogue -/

/-- The owning block acts on a command handed on by the chain reader (11, R192). Rows that are no chain
command are never handed on. -/
def State.runCommand (i : Instr) (s : State) : State :=
  match i with
  | .setLevel r t mode l => cmdSetLevel r t mode l s
  | .fade r t mode l dur law => cmdFade r t mode l dur law s
  | .stopFade r t => cmdStopFade r t s
  | .setSource r c mute => cmdSetSource r c mute s
  | .setBus r b mute clear => cmdSetBus r b mute clear s
  | .setContrib r b c l tap dur law => cmdSetContrib r b c l tap dur law s
  | .removeContrib r b c dur law => cmdRemoveContrib r b c dur law s
  | .startVoice r v d delay => cmdStartVoice r v d delay s
  | .stopVoice r v mode n => cmdStopVoice r v mode n s
  | .teardownVoice r v => cmdTeardownVoice r v s
  | .setReserve r v => cmdSetReserve r v s
  | .setSchedule r count vs => cmdSetSchedule r count vs s
  | .loadBook r b i => cmdLoadBook r b i s
  | .goto r i => cmdGoto r i s
  | .go r => cmdGo r s
  | .hold r => cmdHold r s
  | .release r => cmdRelease r s
  | .fire r i => cmdFire r i s
  | .stopCues r => cmdStopCues r s
  | .setFoldback r m f => cmdSetFoldback r m f s
  | .recallScene r l dur law => cmdRecallScene r l dur law s
  | .talk r v => cmdTalk r v s
  | .setZone r z f => cmdSetZone r z f s
  | .setPageButton r b u f => cmdSetPageButton r b u f s
  | .startPage r p => cmdStartPage r p s
  | .endPage r p => cmdEndPage r p s
  | .cancelPage r p => cmdCancelPage r p s
  | .resume r t => cmdResume r t s
  | .setRoute r f c p => cmdSetRoute r f c p s
  | .setInput r c d rise fall => cmdSetInput r c d rise fall s
  | .setPattern r mode mask compare action line => cmdSetPattern r mode mask compare action line s
  | .setOutput r k src g => cmdSetOutput r k src g s
  | .setClockLimits r w c h => cmdSetClockLimits r w c h s
  | .selectClock r v => cmdSelectClock r v s
  | .relock r => cmdRelock r s
  | .loadWindows r addr count => cmdLoadWindows r addr count s
  | .setPoll r t => cmdSetPoll r t s
  | .clearFlags r v => cmdClearFlags r v s
  | .mark r v => cmdMark r v s
  | _ => s

/-- A take that leaves the in-flight table full sends the reader to BLOCKED; otherwise a look still owed
begins (11, R190, R192). -/
def Ml.afterTake (m : Ml) : Ml :=
  if m.inflight.length ≥ Config.inflightCapacity then { m with reader := .blocked } else m.beginLook

/-- A command is handed on: it acts, its notices follow, and the reader goes on (11, R192). -/
def State.handed (s : State) (f : State → State) : State :=
  let s := (f s).settle
  { s with ml := s.ml.afterTake }

/-- Commands are taken only while the part is RUNNING and a slot of the in-flight table is free (11, R192;
10, R188). -/
def State.takes (s : State) : Bool :=
  s.running && decide (s.ml.inflight.length < Config.inflightCapacity)

end Sys2Proof.Machine
end

