-- ==== Sys2Proof/Machine/StatusPage.lean ====
section
/-! DEFINITION. The status page (11, R199) and the peaks it carries (02, R41). -/

namespace Sys2Proof.Machine

/-- The 24 inputs as a set of four bytes. -/
def inputBytes (v : BitVec 24) : List Byte := toLe 4 v.toNat

def State.edgeSet (s : State) : BitVec 24 := setOf 24 fun c => (s.input c).edge

/-- The index of the cue armed or being armed, or 0xFFFF (04, R79). -/
def Ce.shownIndex (c : Ce) : Nat :=
  match c.seq with
  | .standby => match c.armed with | some x => x.index | none => 65535
  | .arming => match c.seqArm with | some a => a.cue.index | none => 65535
  | _ => 65535

def flag (b : Bool) : List Byte := toLe 1 (if b then 1 else 0)

/-- Bytes 4–43: states, runs, clock and lost counts (11, R199). -/
def State.statusHead (s : State) : List Byte :=
  toLe 1 (partCode s.ml.part) ++ toLe 1 (seqCode s.ce.seq) ++ toLe 2 s.ce.shownIndex ++
    toLe 1 s.ce.runs.length ++ flag s.ce.hold ++ toLe 1 (ilCode s.il.st) ++ toLe 1 (clockCode s.ck.st) ++
    toLe 4 (w32i s.ck.deviation).toNat ++ toLe 4 s.ck.changeovers ++ toLe 8 s.ck.now ++
    s.ml.lost.toList.flatMap (toLe 4)

/-- Bytes 44–45 and 48–55: the last fault; where there is none its offset is written 0 (11, R199; log 51). -/
def State.statusFault (s : State) : List Byte × List Byte :=
  match s.ml.lastFault with
  | some f => (toLe 1 f.win ++ toLe 1 (blockCode f.block), toLe 8 f.off)
  | none => (toLe 1 255 ++ toLe 1 0, toLe 8 0)

/-- The five bytes of bus `b` (11, R199). -/
def State.statusBus (s : State) (b : Nat) : List Byte :=
  toLe 2 (unsigned16 (peakPoints (s.bus b).peak)) ++ toLe 2 (s.bus b).clip ++ flag (s.bus b).clamp

/-- The three bytes of zone `z`; a zone with no holder has page id 0 (11, R199; log 51). -/
def State.statusZone (s : State) (z : Nat) : List Byte :=
  toLe 2 ((s.zone z).holder.getD 0) ++ flag (s.zone z).holder.isSome

/-- The body of the page: runs of bytes by offset within the page (11, R199). In the final page bytes 56–59
show the debounced states of the end of RUNNING (log 45). -/
def State.statusBody (s : State) : List (Nat × List Byte) :=
  [(4, s.statusHead), (44, s.statusFault.1), (48, s.statusFault.2),
   (56, inputBytes s.closedSet ++ inputBytes s.edgeSet)] ++
  (List.range 25).map (fun b => (128 + 8 * b, s.statusBus b)) ++
  [(328, s.lv.reduction.toList.flatMap fun r => toLe 2 (unsigned16 r))] ++
  (oneTo 32).map (fun z => (356 + 4 * z, s.statusZone z)) ++
  [(488, (oneTo 64).flatMap fun v => toLe 1 (voiceCode (s.voice v).st))]

/-- Every peak accumulation restarts from 0 (02, R41). -/
def State.restartPeaks (s : State) : State :=
  { s with mx := { s.mx with buses := s.mx.buses.map fun u => { u with peak := 0 } } }

/-- A page is written: its span is checked once, then three writes are issued (11, R199). -/
def State.writeStatus (s : State) : State :=
  match s.ml.setup with
  | none => s
  | some c =>
    if !s.ml.allows c.status 4096 true then (s.windowFault c.status .status).restartPeaks
    else
      let a := s.ml.address c.status
      let n := s.ml.statusCount
      let body := s.statusBody.map fun x => (a + x.1, x.2)
      let m := ((s.ml.write [(a, toLe 4 (n + 1))]).write body).write [(a, toLe 4 (n + 2))]
      ({ s with ml := { m with statusCount := (n + 2) % 2 ^ 32 } }).restartPeaks

/-- A page is due (11, R199). -/
def State.statusDue (s : State) : Bool := s.running && decide (s.ml.nextStatus ≤ s.ck.now)

/-- The interval of the page in samples (11, R199; 01, R4). -/
def State.meterSamples (s : State) : Nat :=
  match s.ml.setup with
  | some c => delaySamples s.ck.rate c.meter
  | none => 0

/-- A page that is due is written, and the next falls due one interval later (11, R199). -/
def State.statusPage (s : State) : State :=
  let s := s.writeStatus
  { s with ml := { s.ml with nextStatus := s.ml.nextStatus + s.meterSamples } }

end Sys2Proof.Machine
end

