-- ==== Sys2Proof/Machine/MemoryUnit.lean ====
section
/-! DEFINITION. The memory link's larger operations: windows (10, R184, R186), starting (10, R181, R182),
stopping and resets (10, R181, R188), the read arbiter (10, R187), and the returns of its own reads
(11, R191, R192, R196). -/

namespace Sys2Proof.Machine

/-! ### Windows -/

/-- Window descriptor `w` of a table, as cached (10, R184). -/
def windowAt (b : List Byte) (count w : Nat) : Window :=
  let base := fieldAt b (16 * w) 8
  let limit := fieldAt b (16 * w + 8) 4
  let rights := fieldAt b (16 * w + 12) 1
  let ok := decide (w < count) && fieldAt b (16 * w + 13) 1 == 1 && base % 64 == 0 &&
    decide (base + limit ≤ 2 ^ 64 - 1)
  ⟨base, limit, rights.testBit 0, rights.testBit 1, ok⟩

/-- The cache made from a table (10, R184). -/
def windowSet (b : List Byte) (count : Nat) : Vector Window 16 := Vector.ofFn fun w => windowAt b count w.val

/-! ### Resets -/

/-- Every block at its reset values. RUN, ROOT, CAUSE, MASK, the reads in `slots`, the queue of commands, the
record of writes and the count of choices are kept (10, R188). -/
def State.resetBlocks (s : State) (slots : List Outstanding) : State :=
  { State.reset with
    pending := s.pending
    choices := s.choices
    ml := { Ml.reset with
      run := s.ml.run, root := s.ml.root, cause := s.ml.cause, mask := s.ml.mask,
      slots := slots, writes := s.ml.writes } }

/-- Power-on from the reset pin (10, R181; log 30). -/
def State.powerOn (s : State) : State :=
  { State.reset with
    pending := s.pending, choices := s.choices, ml := { Ml.reset with writes := s.ml.writes } }

/-- A soft reset (10, R181): the reads outstanding keep their slots until they return. -/
def State.softReset (s : State) : State :=
  let t := s.resetBlocks (s.ml.slots.map fun o => { o with use := .orphan })
  { t with ml := { t.ml with run := false, cause := 0, mask := 0 } }

/-- A read left by a soft reset returns: its slot is free and its data is discarded (10, R181). -/
def State.orphanReturn (s : State) (d : ReadData) : State := s.dropRead .orphan d

/-! ### Starting -/

/-- A start fault (10, R182). -/
def State.startFault (s : State) : State :=
  let t := (s.setCause causeStartFault).resetBlocks s.ml.slots
  { t with ml := { t.ml with run := false } }

/-- Entry to STARTING: ROOT is read once (10, R179, R181, R182). -/
def State.enterStarting (s : State) : State :=
  let root := s.ml.root.toNat
  let s := { s with ml := { s.ml with part := .starting, abandoned := false, phase := .root root } }
  if root = 0 ∨ root % 64 ≠ 0 then s.startFault else s

/-- A start's own read is out. -/
def Ml.startReadOut (m : Ml) : Bool := m.isOut .root || m.isOut .startTable

/-- An abandoned start ends: to STOPPED, or to STARTING afresh if RUN is then 1 (10, R181). -/
def State.endAbandoned (s : State) : State :=
  let s := s.resetBlocks s.ml.slots
  if s.ml.run then s.enterStarting else s

/-- The root block as read, clamped (10, R182). -/
def setupAt (b : List Byte) : Setup where
  rate := fieldAt b 0 4
  external := fieldAt b 4 1 == 1
  enables := BitVec.ofNat 8 (fieldAt b 5 1)
  poll := clampPoll (fieldAt b 8 4)
  meter := min (max (fieldAt b 12 4) 10) 1000
  tableAddr := fieldAt b 16 8
  count := fieldAt b 24 1
  chainStart := linkAt b 32
  freeHead := linkAt b 40
  anchor := linkAt b 48
  status := linkAt b 56

/-- The checks of the root block's own fields (10, R182). -/
def rootBlockOk (b : List Byte) : Bool :=
  let c := setupAt b
  (c.rate == 48000 || c.rate == 96000) && decide (fieldAt b 4 1 ≤ 1) && c.tableAddr % 16 == 0 &&
    decide (1 ≤ c.count ∧ c.count ≤ 16)

/-- READ and WRITE over a span (10, R182). -/
def Ml.allowsBoth (m : Ml) (l : Link) (len : Nat) : Bool := m.allows l len false && m.allows l len true

/-- The checks of the four links against the newly cached set (10, R182). -/
def Ml.linksOk (m : Ml) (c : Setup) : Bool :=
  m.allowsBoth c.chainStart 128 && m.allowsBoth c.freeHead 32 && m.allowsBoth c.anchor 32 &&
    m.allows c.status 4096 true

/-- A bus error on a read of a start: a start fault, with MEMORY_FAULT (10, R180, R182; log 11). -/
def State.startBusError (s : State) : State := (s.setCause causeMemoryFault).startFault

/-- The root block read returns (10, R182). -/
def State.rootReturn (s : State) (d : ReadData) : State :=
  if !s.ml.isOut .root then s
  else if s.ml.abandoned then (s.dropRead .root d).endAbandoned
  else
    let s := { s with ml := s.ml.freeSlot .root }
    match d with
    | .busError => s.startBusError
    | .data b =>
      if rootBlockOk b then
        { s with ml := { s.ml with setup := some (setupAt b), phase := .table } }
      else s.startFault

/-- One sample period's input samples, slots 0–58 (02, R27, R28). -/
def inputSamples (p : Pins) : List Int := (p.slots.take 59).map BitVec.toInt

/-- A frame (02, R27, R28; 06, R125). -/
def State.frameOf (s : State) (p : Pins) (voices : List Int) : Frame where
  inputs := inputSamples p
  voices := Vector.ofFn fun v => voices.getD v.val 0
  pages := s.rc.pages.filterMap fun q => q.voice.map fun v => (q.arrival, voices.getD (v - 1) 0)

/-- RUNNING is entered at sample 0 (10, R182; 09, R170–R172; 08, R159; 11, R190, R196). -/
def State.enterRunning (s : State) (c : Setup) (p : Pins) : State :=
  let m := { s.ml with
    part := .running, phase := .idle, position := some c.chainStart, reader := .waiting, lookOwed := true,
    pollInterval := c.poll, pollStart := 0, freeHead := some c.freeHead, nextLink := .unknown,
    anchor := some c.anchor, nextStatus := 0 }
  let s := { s with ml := m.beginLook, ck := { s.ck with now := 0, rate := c.rate } }
  let s := if c.external then s.beginAcquire else s
  let s := s.firstInputs p.contacts
  { s with mx := { s.mx with nextPeriod := 0, frames := [s.frameOf p []] } }

/-- The window table read of a start returns (10, R182, R184). -/
def State.tableReturn (s : State) (d : ReadData) (p : Pins) : State :=
  if !s.ml.isOut .startTable then s
  else if s.ml.abandoned then (s.dropRead .startTable d).endAbandoned
  else
    let s := { s with ml := s.ml.freeSlot .startTable }
    match d, s.ml.setup with
    | .busError, _ => s.startBusError
    | .data _, none => s
    | .data b, some c =>
      let m := { s.ml with windows := windowSet b c.count }
      if m.linksOk c then ({ s with ml := m }).enterRunning c p else s.startFault

/-! ### RUN writes and stopping -/

/-- The CLAMPED flag of a command that STOPPING ends: a clamp of the command itself, of what its recall has
read, or of the cue its arming has read (05, R120; 11, R193). -/
def State.abortClamped (s : State) (e : InFlight) : Bool :=
  e.clamped ||
    (match e.job with
     | .scene n => match s.recallOf n with | some q => q.clamped | none => false
     | .seqArm => armClamped s.ce.seqArm none
     | .fireArm => armClamped s.ce.fireArm s.ce.fireCue
     | _ => false)

/-- Stopping the part abandons the fire slot and releases its primes (04, R94). No block acts on a notice of
it any more (03, R75; 04, R102; 06, R148). -/
def State.stopFire (s : State) : State := { s.abandonFire with notices := s.notices }

/-- Entry to STOPPING (10, R188; 11, R192, R196; 02, R43; 04, R94; 05, R120; 09, R178). The records in flight
are written in the order in which they were taken (log 49). The debounced states
keep the values they have at the entry, for the final status page (08, R159; log 45). -/
def State.enterStopping (s : State) : State :=
  let jobs := s.ml.inflight.map fun e => (e.r, s.abortClamped e)
  let m := { s.ml with
    part := .stopping, queue := [], headWanted := false, loads := [], inflight := [], reader := .waiting,
    lookOwed := false }
  let m := jobs.foldl (fun m e => m.finishRecord s.ck.now e.1 .aborted .none e.2) m
  ({ s with
    ml := m
    mx := { s.mx with closingAt := some (nextBoundary s.ck.now), closingDone := false }
    fb := { s.fb with recalls := [] }
    ck := { s.ck with external := false, selected := false } }).stopFire

/-- RUN written 1, where it changes RUN (10, R181). -/
def State.runOne (s : State) : State :=
  if s.ml.run then s
  else
    let s := { s with ml := { s.ml with run := true } }
    if s.ml.part = .stopped then s.enterStarting else s

/-- RUN written 0, where it changes RUN (10, R181; log 10). -/
def State.runZero (s : State) : State :=
  if !s.ml.run then s
  else
    let s := { s with ml := { s.ml with run := false } }
    match s.ml.part with
    | .stopped => s
    | .starting =>
      let s := { s with ml := { s.ml with abandoned := true } }
      if s.ml.startReadOut then s else s.endAbandoned
    | .running => s.enterStopping
    | .stopping => s

/-- STOPPING may end: no read is outstanding and the closing period has been computed (10, R188; log 12). -/
def State.stopReady (s : State) : Bool :=
  s.ml.part == .stopping && s.ml.slots.isEmpty && s.mx.closingDone

/-- The end of STOPPING: the final status page, the reset values, and STOPPED or STARTING (10, R188). -/
def State.endStopping (s : State) : State :=
  let s := s.writeStatus
  let s := s.resetBlocks []
  if s.ml.run then s.enterStarting else s

/-! ### The read arbiter -/

/-- Issue a read (10, R187). -/
def Ml.issue (m : Ml) (u : ReadUse) (addr len : Nat) (l : Link) : Ml :=
  { m with slots := m.slots ++ [⟨u, addr, len, l⟩] }

def isOwnRead : ReadUse → Bool
  | .root => true
  | .startTable => true
  | .loadWindows _ _ => true
  | _ => false

/-- The users of the read limit, in the order of the grant (10, R187). -/
inductive User
  | own
  | reports
  | chain
  | seqArm
  | fireArm
  | recall (number : Nat)
  | walker
  deriving DecidableEq, Repr

/-- The ML's own reads, made one at a time (10, R187). -/
def State.ownWaits (s : State) : Bool :=
  !(s.ml.slots.any fun o => isOwnRead o.use) &&
    (match s.ml.part with
     | .starting => !s.ml.abandoned && s.ml.phase != .idle
     | .running => !s.ml.loads.isEmpty
     | _ => false)

/-- The chain reader asks for a link or for a record (11, R190, R191). -/
def State.chainWaits (s : State) : Bool :=
  !(s.ml.slots.any fun o => match o.use with | .chainLink => true | .chainRecord _ => true | _ => false) &&
    (match s.ml.reader with | .looking => true | .reading _ => true | _ => false)

/-- The next read of an arming, if it may be asked for: one read at a time, those of abandoned armings
included (04, R79). -/
def State.armWaits (s : State) (fire : Bool) : Option (Arming × Link × Nat) :=
  if s.ml.isOut (.arming fire true) || s.ml.isOut (.arming fire false) then none
  else
    match s.arming fire with
    | none => none
    | some a => (a.want (s.ce.book.getD endLink)).map fun x => (a, x.1, x.2)

/-- The recall of lowest number that asks for a read (10, R187). -/
def State.recallWaits (s : State) : Option Recall :=
  (s.fb.recalls.filter fun q => !s.ml.isOut (.scene q.number)).foldl (fun best q =>
    match best with
    | none => some q
    | some b => if q.number < b.number then some q else some b) none

/-- The first user that waits (10, R187). -/
def State.nextUser (s : State) : Option User :=
  if s.ownWaits then some .own
  else if !s.running then none
  else if s.ml.headWanted && !s.ml.headReadOut then some .reports
  else if s.chainWaits then some .chain
  else if (s.armWaits false).isSome then some .seqArm
  else if (s.armWaits true).isSome then some .fireArm
  else
    match s.recallWaits with
    | some q => some (.recall q.number)
    | none => if s.walkerPick.isSome then some .walker else none

/-- The ML issues its own read, at an absolute address (10, R182, R186). -/
def State.issueOwn (s : State) : State :=
  match s.ml.part, s.ml.phase, s.ml.setup, s.ml.loads with
  | .starting, .root a, _, _ => { s with ml := s.ml.issue .root a 128 endLink }
  | .starting, .table, some c, _ => { s with ml := s.ml.issue .startTable c.tableAddr (16 * c.count) endLink }
  | .running, _, _, q :: rest =>
    { s with ml := { s.ml.issue (.loadWindows q.r q.count) q.addr (16 * q.count) endLink with loads := rest } }
  | _, _, _, _ => s

/-- The report writer reads the head slot's link (11, R196, R198). -/
def Ml.issueHead (m : Ml) : Ml :=
  let h := m.freeHead.getD endLink
  let m := { m with headWanted := false }
  if m.allows h 8 false then m.issue .reportHead (m.address h) 8 h else (m.recordFault h .report).loseQueue

/-- The chain reader reads the link at its position, or the record under judgement (11, R190, R191). -/
def State.issueChain (s : State) : State :=
  let go := fun (l : Link) (u : ReadUse) (len : Nat) =>
    if s.ml.allows l len false then { s with ml := s.ml.issue u (s.ml.address l) len l }
    else
      let t := s.windowFault l .chain
      { t with ml := t.ml.toWaiting }
  match s.ml.reader with
  | .looking => go (s.ml.position.getD endLink) .chainLink 8
  | .reading l => go l (.chainRecord l) 128
  | _ => s

/-- An arming makes its next read (04, R79, R80). -/
def State.issueArm (s : State) (fire : Bool) : State :=
  match s.armWaits fire with
  | none => s
  | some (a, l, len) =>
    if s.ml.allows l len false then { s with ml := s.ml.issue (.arming fire true) (s.ml.address l) len l }
    else (s.windowFault l .cue).bookFault fire a .window

/-- A recall makes its next read (05, R114, R115). -/
def State.issueRecall (s : State) (n : Nat) : State :=
  match s.recallOf n with
  | none => s
  | some q =>
    if s.ml.allows q.place q.want false then
      { s with ml := s.ml.issue (.scene n) (s.ml.address q.place) q.want q.place }
    else (s.windowFault q.place .scene).sceneFault q .window

/-- A slot is granted to a user, which issues its read at once (10, R187). -/
def State.serveUser (s : State) : User → State
  | .own => s.issueOwn
  | .reports => { s with ml := s.ml.issueHead }
  | .chain => s.issueChain
  | .seqArm => s.issueArm false
  | .fireArm => s.issueArm true
  | .recall n => s.issueRecall n
  | .walker => s.walkerServe

/-- A read slot is free and a user waits for it (10, R187). -/
def State.grantDue (s : State) : Option User :=
  if s.ml.slots.length < Config.readCapacity then s.nextUser else none

/-- The arbiter grants one slot (10, R187). -/
def State.grantRead (s : State) : State :=
  match s.grantDue with
  | some u => s.serveUser u
  | none => s

/-- At most `n` grants, one after the other. -/
def State.grantN : Nat → State → State
  | 0, s => s
  | n + 1, s =>
    match s.grantDue with
    | some u => State.grantN n (s.serveUser u).settle
    | none => s

/-- The arbiter grants slots until none is free or no user waits: a request made while a slot is free is
granted at once (10, R187; log 32). Every command ends with this. -/
def State.granted (s : State) : State := State.grantN 4096 s

/-! ### Returns of the ML's own reads -/

/-- The link read of a look returns (11, R191). -/
def State.chainLinkReturn (s : State) (d : ReadData) : State :=
  if !s.ml.isOut .chainLink then s
  else if !(s.running && s.ml.reader == .looking) then s.dropRead .chainLink d
  else
    let s := { s with ml := s.ml.freeSlot .chainLink }
    match d with
    | .data b =>
      let l := linkAt b 0
      if isEnd l then { s with ml := s.ml.toWaiting } else { s with ml := { s.ml with reader := .reading l } }
    | .busError =>
      let t := s.windowFault (s.ml.position.getD endLink) .chain
      { t with ml := t.ml.toWaiting }

/-- The reader enters WAITING with its position unchanged (11, R191, R192). -/
def State.readerBack (s : State) : State := { s with ml := s.ml.toWaiting }

/-- A POSTED record is taken (11, R192): TAKEN, position, look owed and WAITING, the hand-over. -/
def State.takeRecord (s : State) (l : Link) (b : List Byte) : State :=
  let at_ := linkPlus l 8
  if !s.ml.allows at_ 1 true then (s.windowFault at_ .chain).readerBack
  else
    let m := s.ml.write [(s.ml.address at_, toLe 1 2)]
    let s := { s with ml := { m with position := some l, lookOwed := true, reader := .waiting } }
    match decodeRecord l b with
    | none => s.handed fun s => s.finish l .unknown
    | some i => s.handed (State.runCommand i)

/-- The record read of a look returns (11, R191, R192). A reader that reads has a place for its command. -/
def State.chainRecordReturn (s : State) (d : ReadData) : State :=
  match s.ml.slots.find? fun o => match o.use with | .chainRecord _ => true | _ => false with
  | none => s
  | some o =>
    match s.ml.reader with
    | .reading l =>
      if !s.takes then s.dropRead o.use d
      else
        let s := { s with ml := s.ml.freeSlot o.use }
        match d with
        | .data b =>
          if fieldAt b 8 1 = 1 then s.takeRecord l b else (s.setCause causeChainFault).readerBack
        | .busError => (s.windowFault l .chain).readerBack
    | _ => s.dropRead o.use d

/-- The head-slot link read of the report writer returns (11, R196, R198). In STOPPING its data is discarded
(10, R188), and a bus error still loses the queue (11, R198; log 50). -/
def Ml.headReturn (m : Ml) (d : ReadData) : Ml :=
  if !m.headReadOut then m
  else if m.part != .running then
    let m := m.dropRead 0 .reportHead d
    match d with
    | .data _ => m
    | .busError => m.loseQueue
  else
    let m := m.freeSlot .reportHead
    match d with
    | .data b =>
      let l := linkAt b 0
      if isEnd l then { m with nextLink := .endOfList }.loseQueue
      else { m with nextLink := .known l }.serve (Config.reportCapacity + 1)
    | .busError => (m.recordFault (m.freeHead.getD endLink) .report).loseQueue

/-- The first command in flight that waits on `j` finishes. -/
def Ml.finishFirst (m : Ml) (now : Nat) (j : Job) (res : Result) : Ml :=
  match m.inflight.find? (·.job == j) with
  | none => m
  | some e =>
    let m := { m with inflight := m.inflight.eraseP (·.job == j) }
    (m.finishRecord now e.r res .none e.clamped).slotFreed

/-- The table read of LOAD_WINDOWS returns (10, R186). -/
def State.loadWindowsReturn (s : State) (d : ReadData) : State :=
  match s.ml.slots.find? fun o => match o.use with | .loadWindows _ _ => true | _ => false with
  | none => s
  | some o =>
    if !s.running then s.dropRead o.use d
    else
      let s := { s with ml := s.ml.freeSlot o.use }
      match d, o.use with
      | .data b, .loadWindows _ count =>
        let m := { s.ml with windows := windowSet b count }
        { s with ml := m.finishFirst s.ck.now .loadWindows .ok }
      | _, _ =>
        let t := s.windowFault endLink .windows
        { t with ml := t.ml.finishFirst s.ck.now .loadWindows .window }

/-! ### Registers -/

/-- CAUSE written: 1 clears; bits that no field names are ignored (10, R179, R180). -/
def Ml.clearCause (m : Ml) (bits : Word) : Ml := { m with cause := m.cause &&& ~~~bits }

/-- MASK written (10, R179). -/
def Ml.setMask (m : Ml) (value : Word) : Ml := { m with mask := value &&& causeFields }

/-- WAKE written: a look is owed while RUNNING (10, R179; 11, R190). -/
def State.wake (s : State) : State := if s.running then { s with ml := s.ml.oweLook } else s

/-- CONTROL written: RESET before RUN (10, R179, R181). -/
def State.writeControl (s : State) (value : Word) : State :=
  if value.getLsbD 1 then s.softReset
  else if value.getLsbD 0 then s.runOne
  else s.runZero

/-- ROOT written, whole or by halves (10, R179). -/
def State.writeRoot (s : State) (offset : Nat) (wide : Bool) (value : Wide) : State :=
  let low := value.setWidth 32
  let root : Wide :=
    if wide then value
    else if offset = 0 then (s.ml.root.extractLsb' 32 32) ++ low
    else low ++ (s.ml.root.extractLsb' 0 32)
  { s with ml := { s.ml with root := root } }

/-- A host write to the register window (10, R179; log 13). -/
def State.registerWrite (s : State) (offset : Nat) (wide : Bool) (value : Wide) : State :=
  let v := value.setWidth 32
  match offset, wide with
  | 0x00, w => s.writeRoot 0 w value
  | 0x04, false => s.writeRoot 4 false value
  | 0x08, false => s.writeControl v
  | 0x0C, false => s.wake
  | 0x10, false => { s with ml := s.ml.clearCause v }
  | 0x14, false => { s with ml := s.ml.setMask v }
  | _, _ => s

/-- What a 64-bit read of the register window returns: ROOT, the one register accepted whole (10, R179;
log 13). -/
def State.registerReadWide (s : State) (offset : Nat) : Wide :=
  match offset with
  | 0x00 => s.ml.root
  | _ => 0

/-- What a 32-bit read of the register window returns (10, R179; log 13). -/
def State.registerRead (s : State) (offset : Nat) : Word :=
  match offset with
  | 0x00 => s.ml.root.setWidth 32
  | 0x04 => s.ml.root.extractLsb' 32 32
  | 0x08 => w32 ((if s.ml.run then 1 else 0) + 256 * partCode s.ml.part)
  | 0x10 => s.ml.cause
  | 0x14 => s.ml.mask
  | _ => 0

end Sys2Proof.Machine
end

