-- ==== Sys2Proof/Machine/Events.lean ====
section
/-! DEFINITION. The events of time: when each of the part's own events is due, the control period (01, R8,
R18; 02, R37), the starts and ends of voices (03, R60, R62–R65), and the sample period (09, R170). -/

namespace Sys2Proof.Machine

/-! ### The control period -/

/-- The boundary of a control period has been reached (01, R8; 02, R43). -/
def State.periodDue (s : State) : Bool :=
  (s.running || s.ml.part == .stopping) && decide (s.mx.nextPeriod ≤ s.ck.now)

/-- Is the period that begins now the closing period, or one after it (02, R43)? -/
def State.closing (s : State) : Bool :=
  s.ml.part == .stopping &&
    (match s.mx.closingAt with | some b => decide (b ≤ s.ck.now) | none => false)

/-- Has the closing period run its 64 samples, so that this boundary computes it (02, R43; log 12)? -/
def State.closingEnds (s : State) : Bool :=
  s.ml.part == .stopping &&
    (match s.mx.closingAt with | some b => decide (b + 64 ≤ s.ck.now) | none => false)

/-- A control period: the one that has ended is computed, the fade step event runs, and the gains of the one
that begins are formed (01, R8, R18; 02, R37, R43; log 25). -/
def State.controlPeriod (s : State) : State :=
  let frames := s.mx.frames
  let closing := s.closing
  let done := s.closingEnds
  let s := if s.ck.now = 0 then s else s.computePeriod frames.dropLast
  let s := if s.running then s.stepFades else s
  let s := s.formPeriod closing
  { s with mx := { s.mx with
      nextPeriod := s.mx.nextPeriod + 64, frames := frames.drop (frames.length - 1),
      closingDone := s.mx.closingDone || done } }

/-- A fade whose last step falls in the control period now due (01, R18; log 28). -/
def State.fadeReady (s : State) (f : Fade) : Bool :=
  s.running && s.periodDue && !f.frozen && decide (f.d ≤ f.k + 1)

/-- A fade entry takes its last step (01, R18). -/
def State.fadeEnd (s : State) (t : Target) : State :=
  match s.fadeOn t with
  | none => s
  | some f => if s.fadeReady f then s.completeFade { f with k := f.k + 1 } else s

/-! ### Voices -/

/-- The play position has passed the last frame of the path (03, R65). -/
def State.pathEndDue (s : State) (v : Nat) : Bool := (s.voice v).playing && (s.voice v).pos.done

/-- The voice drains at the end of its path, with cause END, in a cut ramp too (03, R62, R65, R66; log 42). -/
def State.pathEnd (s : State) (v : Nat) : State := if s.pathEndDue v then s.drain v .finished else s

/-- The cut ramp is done (03, R62). -/
def State.cutEndDue (s : State) (v : Nat) : Bool :=
  (s.voice v).playing && (s.voice v).inCut && (s.voice v).ramp.isNone

def State.cutRampEnd (s : State) (v : Nat) : State := if s.cutEndDue v then s.drain v .stopped else s

/-- The down-ramp of a PAUSED voice under CUT is done (03, R62, R67). -/
def State.pauseEndDue (s : State) (v : Nat) : Bool :=
  (s.voice v).st == .paused && (s.voice v).inCut && (s.voice v).ramp.isNone

def State.pauseRampEnd (s : State) (v : Nat) : State := if s.pauseEndDue v then s.drain v .stopped else s

/-- The tail count has reached 0 (03, R63). -/
def State.tailEndDue (s : State) (v : Nat) : Bool :=
  (s.voice v).st == .tailing && !(s.voice v).inCut && (s.voice v).tail == 0

def State.tailEnd (s : State) (v : Nat) : State :=
  if s.tailEndDue v then s.setVoice v (s.voice v).cutRamp else s

/-- A voice starts; a cue voice's START_VOICE action has then executed (03, R60). -/
def State.voiceStart (s : State) (v : Nat) : State :=
  if s.startDue v then
    let o := (s.voice v).owner
    let s := s.beginVoice v
    match o with
    | .cue run => s.voiceActionDone v run
    | _ => s
  else s

/-! ### Other events that fall due -/

/-- The flash window has run out (08, R168). -/
def State.flashOver (s : State) : Bool :=
  match s.cu.flash with
  | some e => decide (e < s.ck.now)
  | none => false

def State.flashEnd (s : State) : State :=
  if s.flashOver then { s with cu := { s.cu with flash := none } } else s

/-- The poll timer expires on the sample grid (11, R190; log 9). -/
def State.pollDue (s : State) : Bool :=
  decide (s.ml.pollInterval * s.ck.rate ≤ (s.ck.now - s.ml.pollStart) * 1000000)

/-- An expiry of the poll timer, which restarts (11, R190). -/
def State.pollExpiry (s : State) : State := { s with ml := { s.ml.oweLook with pollStart := s.ck.now } }

def State.pageDue (s : State) (p : State → Nat → Bool) : Option Nat :=
  (s.rc.pages.map (·.id)).find? (p s)

/-! ### What is still due -/

/-- The next voice event that is due. -/
def State.dueVoice (s : State) : Option State :=
  match (oneTo 64).find? s.pathEndDue with
  | some v => some (s.pathEnd v)
  | none =>
  match (oneTo 64).find? s.cutEndDue with
  | some v => some (s.cutRampEnd v)
  | none =>
  match (oneTo 64).find? s.pauseEndDue with
  | some v => some (s.pauseRampEnd v)
  | none =>
  match (oneTo 64).find? s.tailEndDue with
  | some v => some (s.tailEnd v)
  | none => none

/-- The next event of the cue engine, of a starting voice or of a page that is due. -/
def State.dueShow (s : State) : Option State :=
  if s.followDue then some s.expireFollow
  else
    match s.dueAction with
    | some q => some (s.runDueAction q)
    | none =>
    match (oneTo 64).find? s.startDue with
    | some v => some (s.voiceStart v)
    | none =>
    match s.pageDue State.waitExpired with
    | some p => some (s.endPage p .expired)
    | none =>
    match s.pageDue State.lengthExpired with
    | some p => some (s.endPage p .timeout)
    | none => none

/-- The next event of the clocks, the poll timer or the status page that is due. -/
def State.dueClock (s : State) : Option State :=
  if s.flashOver then some s.flashEnd
  else if s.windowDue then some s.windowEnd
  else if s.lossDue then some s.lossEvent
  else if s.pollDue then some s.pollExpiry
  else if s.statusDue then some s.statusPage
  else none

/-- The next of the part's own events that is due at this sample and has not been taken (log 4). -/
def State.dueStep (s : State) : Option State :=
  if !s.running then (if s.periodDue then some s.controlPeriod else none)
  else
    match s.grantDue with
    | some u => some (s.serveUser u)
    | none =>
    if s.boundaryDue then some s.takeBoundary
    else if s.periodDue then some s.controlPeriod
    else
    match s.dueVoice with
    | some t => some t
    | none =>
    match (oneTo 24).find? fun c => (s.input c).due with
    | some c => some (s.inputChange c 21 [])
    | none =>
    match s.dueShow with
    | some t => some t
    | none => s.dueClock

/-- At most `n` events that are still due at this sample are taken (log 4). -/
def State.drainN : Nat → State → State
  | 0, s => s
  | n + 1, s =>
    match s.dueStep with
    | none => s
    | some t => State.drainN n t.settle

def State.drainDue (s : State) : State := State.drainN 4096 s

/-! ### The sample period -/

/-- The sample that begins: inputs, oscillator and voices (09, R170; 08, R159; 03, R50). -/
def State.nextSample (s : State) (p : Pins) (osc : Nat) : State :=
  let s := s.setCk { s.ck with now := s.ck.now + 1 }
  let s := if s.running then (s.debounce p.contacts).oscillate (if s.ck.external then osc else 1) else s
  let (s, outs) := s.tickVoices
  { s with mx := { s.mx with frames := s.mx.frames ++ [s.frameOf p outs] } }

/-- A sample period of the clock in use, while RUNNING or STOPPING (09, R170). -/
def State.samplePeriod (s : State) (p : Pins) (osc : Nat) : State :=
  if s.running || s.ml.part == .stopping then s.drainDue.nextSample p osc else s

end Sys2Proof.Machine
end

