-- ==== Sys2Proof/Machine/ExecRegisters.lean ====
section
/-! DEFINITION. The meanings of the rows of registers, resets and part states: one definition for each row of
spec/opcode_table.json, over the shared operations. -/

namespace Sys2Proof.Machine

/-- What a command comes to: the SE-48 always goes on. -/
abbrev Answer := Host.Outcome State Fault Refusal

/-- POWER_ON (R181). -/
def execPowerOn (s : State) : Answer :=
  .next s.powerOn.granted

/-- REGISTER_WRITE (R179). -/
def execRegisterWrite (offset : Nat) (wide : Bool) (value : Wide) (s : State) : Answer :=
  .next (s.registerWrite offset wide value).settle.granted

/-- RUN_WRITTEN_1 (R181). -/
def execRunWritten1 (s : State) : Answer :=
  .next s.runOne.granted

/-- RUN_WRITTEN_0 (R188). -/
def execRunWritten0 (s : State) : Answer :=
  .next s.runZero.granted

/-- SOFT_RESET (R181). -/
def execSoftReset (s : State) : Answer :=
  .next s.softReset.granted

/-- WAKE (R179). -/
def execWake (s : State) : Answer :=
  .next s.wake.granted

/-- CAUSE_CLEAR (R180). -/
def execCauseClear (bits : Word) (s : State) : Answer :=
  .next ({ s with ml := s.ml.clearCause bits }).granted

/-- MASK_WRITE (R180). -/
def execMaskWrite (value : Word) (s : State) : Answer :=
  .next ({ s with ml := s.ml.setMask value }).granted

/-- ROOT_BLOCK_READ_COMPLETE (R182). -/
def execRootBlockReadComplete (d : ReadData) (s : State) : Answer :=
  .next (s.rootReturn d).granted

/-- WINDOW_TABLE_READ_COMPLETE (R182). -/
def execWindowTableReadComplete (d : ReadData) (pins : Pins) (s : State) : Answer :=
  .next (s.tableReturn d pins).granted

/-- STOPPING_END (R188). -/
def execStoppingEnd (s : State) : Answer :=
  .next (if s.stopReady then s.endStopping else s).granted

/-- ORPHAN_READ_RETURN (R181). -/
def execOrphanReadReturn (d : ReadData) (s : State) : Answer :=
  .next (s.orphanReturn d).granted

/-- READ_SLOT_GRANT (R187). -/
def execReadSlotGrant (s : State) : Answer :=
  .next s.grantRead.settle.granted

end Sys2Proof.Machine
end

