-- ==== Sys2Proof/Machine/ExecChain.lean ====
section
/-! DEFINITION. The meanings of the rows of chain commands: one definition for each row of
spec/opcode_table.json, over the shared operations. -/

namespace Sys2Proof.Machine

/-- SET_LEVEL (R23). -/
def execSetLevel (r : Link) (target : TargetField) (mode : Nat) (level : Int) (s : State) : Answer :=
  .next (if s.takes then s.handed (cmdSetLevel r target mode level) else s).granted

/-- FADE (R24). -/
def execFade (r : Link) (target : TargetField) (mode : Nat) (level : Int) (dur : Nat) (law : Nat)
    (s : State) : Answer :=
  .next (if s.takes then s.handed (cmdFade r target mode level dur law) else s).granted

/-- STOP_FADE (R25). -/
def execStopFade (r : Link) (target : TargetField) (s : State) : Answer :=
  .next (if s.takes then s.handed (cmdStopFade r target) else s).granted

/-- SET_SOURCE (R44). -/
def execSetSource (r : Link) (source : Nat) (mute : Nat) (s : State) : Answer :=
  .next (if s.takes then s.handed (cmdSetSource r source mute) else s).granted

/-- SET_BUS (R45). -/
def execSetBus (r : Link) (bus : Nat) (mute : Option Nat) (clear : Nat) (s : State) : Answer :=
  .next (if s.takes then s.handed (cmdSetBus r bus mute clear) else s).granted

/-- SET_CONTRIB (R46). -/
def execSetContrib (r : Link) (bus : Nat) (source : Nat) (level : Int) (tap : Nat) (dur : Nat) (law : Nat)
    (s : State) : Answer :=
  .next (if s.takes then s.handed (cmdSetContrib r bus source level tap dur law) else s).granted

/-- REMOVE_CONTRIB (R47). -/
def execRemoveContrib (r : Link) (bus : Nat) (source : Nat) (dur : Nat) (law : Nat) (s : State) : Answer :=
  .next (if s.takes then s.handed (cmdRemoveContrib r bus source dur law) else s).granted

/-- START_VOICE (R70). -/
def execStartVoice (r : Link) (voice : Nat) (desc : DescField) (delay : Nat) (s : State) : Answer :=
  .next (if s.takes then s.handed (cmdStartVoice r voice desc delay) else s).granted

/-- STOP_VOICE (R71). -/
def execStopVoice (r : Link) (voice : Nat) (mode : Nat) (frames : Nat) (s : State) : Answer :=
  .next (if s.takes then s.handed (cmdStopVoice r voice mode frames) else s).granted

/-- TEARDOWN_VOICE (R72). -/
def execTeardownVoice (r : Link) (voice : Nat) (s : State) : Answer :=
  .next (if s.takes then s.handed (cmdTeardownVoice r voice) else s).granted

/-- SET_RESERVE (R73). -/
def execSetReserve (r : Link) (voices : BitVec 64) (s : State) : Answer :=
  .next (if s.takes then s.handed (cmdSetReserve r voices) else s).granted

/-- SET_SCHEDULE (R74). -/
def execSetSchedule (r : Link) (count : Nat) (voices : List Nat) (s : State) : Answer :=
  .next (if s.takes then s.handed (cmdSetSchedule r count voices) else s).granted

/-- LOAD_BOOK (R98). -/
def execLoadBook (r : Link) (book : Link) (index : Nat) (s : State) : Answer :=
  .next (if s.takes then s.handed (cmdLoadBook r book index) else s).granted

/-- GOTO (R99). -/
def execGoto (r : Link) (index : Nat) (s : State) : Answer :=
  .next (if s.takes then s.handed (cmdGoto r index) else s).granted

/-- GO (R100). -/
def execGo (r : Link) (s : State) : Answer :=
  .next (if s.takes then s.handed (cmdGo r) else s).granted

/-- HOLD (R95). -/
def execHold (r : Link) (s : State) : Answer :=
  .next (if s.takes then s.handed (cmdHold r) else s).granted

/-- RELEASE (R95). -/
def execRelease (r : Link) (s : State) : Answer :=
  .next (if s.takes then s.handed (cmdRelease r) else s).granted

/-- FIRE (R94). -/
def execFire (r : Link) (index : Nat) (s : State) : Answer :=
  .next (if s.takes then s.handed (cmdFire r index) else s).granted

/-- STOP_CUES (R101). -/
def execStopCues (r : Link) (s : State) : Answer :=
  .next (if s.takes then s.handed (cmdStopCues r) else s).granted

/-- SET_FOLDBACK (R121). -/
def execSetFoldback (r : Link) (mix : Nat) (f : FoldbackField) (s : State) : Answer :=
  .next (if s.takes then s.handed (cmdSetFoldback r mix f) else s).granted

/-- RECALL_SCENE (R116). -/
def execRecallScene (r : Link) (scene : Link) (dur : Nat) (law : Nat) (s : State) : Answer :=
  .next (if s.takes then s.handed (cmdRecallScene r scene dur law) else s).granted

/-- TALK (R122). -/
def execTalk (r : Link) (value : Nat) (s : State) : Answer :=
  .next (if s.takes then s.handed (cmdTalk r value) else s).granted

/-- SET_ZONE (R146). -/
def execSetZone (r : Link) (zone : Nat) (f : ZoneField) (s : State) : Answer :=
  .next (if s.takes then s.handed (cmdSetZone r zone f) else s).granted

/-- SET_PAGE_BUTTON (R144). -/
def execSetPageButton (r : Link) (button : Nat) (unset : Nat) (f : ButtonField) (s : State) : Answer :=
  .next (if s.takes then s.handed (cmdSetPageButton r button unset f) else s).granted

/-- START_PAGE (R147). -/
def execStartPage (r : Link) (page : PageField) (s : State) : Answer :=
  .next (if s.takes then s.handed (cmdStartPage r page) else s).granted

/-- END_PAGE (R140). -/
def execEndPage (r : Link) (page : Nat) (s : State) : Answer :=
  .next (if s.takes then s.handed (cmdEndPage r page) else s).granted

/-- CANCEL_PAGE (R141). -/
def execCancelPage (r : Link) (page : Nat) (s : State) : Answer :=
  .next (if s.takes then s.handed (cmdCancelPage r page) else s).granted

/-- RESUME (R155). -/
def execResume (r : Link) (time : Option Nat) (s : State) : Answer :=
  .next (if s.takes then s.handed (cmdResume r time) else s).granted

/-- SET_ROUTE (R163). -/
def execSetRoute (r : Link) (function : Nat) (input : Nat) (polarity : Nat) (s : State) : Answer :=
  .next (if s.takes then s.handed (cmdSetRoute r function input polarity) else s).granted

/-- SET_INPUT (R164). -/
def execSetInput (r : Link) (input : Nat) (debounce : Option Nat) (rise : Option Nat) (fall : Option Nat)
    (s : State) : Answer :=
  .next (if s.takes then s.handed (cmdSetInput r input debounce rise fall) else s).granted

/-- SET_PATTERN (R166). -/
def execSetPattern (r : Link) (mode : Nat) (mask : BitVec 16) (compare : BitVec 16) (action : Nat) (line : Nat)
    (s : State) : Answer :=
  .next (if s.takes then s.handed (cmdSetPattern r mode mask compare action line) else s).granted

/-- SET_OUTPUT (R169). -/
def execSetOutput (r : Link) (output : Nat) (source : Nat) (group : Nat) (s : State) : Answer :=
  .next (if s.takes then s.handed (cmdSetOutput r output source group) else s).granted

/-- SET_CLOCK_LIMITS (R173). -/
def execSetClockLimits (r : Link) (warn : Option Nat) (change : Option Nat) (hyst : Option Nat)
    (s : State) : Answer :=
  .next (if s.takes then s.handed (cmdSetClockLimits r warn change hyst) else s).granted

/-- SELECT_CLOCK (R177). -/
def execSelectClock (r : Link) (value : Nat) (s : State) : Answer :=
  .next (if s.takes then s.handed (cmdSelectClock r value) else s).granted

/-- RELOCK (R176). -/
def execRelock (r : Link) (s : State) : Answer :=
  .next (if s.takes then s.handed (cmdRelock r) else s).granted

/-- LOAD_WINDOWS (R186). -/
def execLoadWindows (r : Link) (addr : Wide) (count : Nat) (s : State) : Answer :=
  .next (if s.takes then s.handed (cmdLoadWindows r addr count) else s).granted

/-- SET_POLL (R200). -/
def execSetPoll (r : Link) (interval : Nat) (s : State) : Answer :=
  .next (if s.takes then s.handed (cmdSetPoll r interval) else s).granted

/-- CLEAR_FLAGS (R200). -/
def execClearFlags (r : Link) (flags : BitVec 8) (s : State) : Answer :=
  .next (if s.takes then s.handed (cmdClearFlags r flags) else s).granted

/-- MARK (R200). -/
def execMark (r : Link) (value : Word) (s : State) : Answer :=
  .next (if s.takes then s.handed (cmdMark r value) else s).granted

end Sys2Proof.Machine
end

