-- ==== Sys2Proof/Machine/ExecReads.lean ====
section
/-! DEFINITION. The meanings of the rows of reads that return, and of the events from outside: one
definition for each row of spec/opcode_table.json, over the shared operations. -/

namespace Sys2Proof.Machine

/-- FETCH_COMPLETE (R56). -/
def execFetchComplete (voice : Nat) (d : ReadData) (s : State) : Answer :=
  .next (s.fetchReturn voice d).settle.granted

/-- ARMING_READ_COMPLETE (R80). -/
def execArmingReadComplete (fire : Bool) (d : ReadData) (s : State) : Answer :=
  .next (s.armReturn fire d).settle.granted

/-- SCENE_READ_COMPLETE (R115). -/
def execSceneReadComplete (number : Nat) (d : ReadData) (s : State) : Answer :=
  .next (s.sceneReturn number d).settle.granted

/-- CHAIN_LINK_READ_COMPLETE (R191). -/
def execChainLinkReadComplete (d : ReadData) (s : State) : Answer :=
  .next (s.chainLinkReturn d).granted

/-- CHAIN_RECORD_READ_COMPLETE (R191). -/
def execChainRecordReadComplete (d : ReadData) (s : State) : Answer :=
  .next (s.chainRecordReturn d).granted

/-- REPORT_LINK_READ_COMPLETE (R196). -/
def execReportLinkReadComplete (d : ReadData) (s : State) : Answer :=
  .next ({ s with ml := s.ml.headReturn d }).granted

/-- LOAD_WINDOWS_READ_COMPLETE (R186). -/
def execLoadWindowsReadComplete (d : ReadData) (s : State) : Answer :=
  .next (s.loadWindowsReturn d).granted

/-- WORD_CLOCK_EDGE (R172). -/
def execWordClockEdge (s : State) : Answer :=
  .next (if s.running then s.clockEdge.settle else s).granted

/-- WRITE_BUS_ERROR (R180). -/
def execWriteBusError (s : State) : Answer :=
  .next (s.setCause causeMemoryFault).granted

end Sys2Proof.Machine
end

