-- ==== Sys2Proof/Machine/ExecTime.lean ====
section
/-! DEFINITION. The meanings of the rows of time: one definition for each row of
spec/opcode_table.json, over the shared operations. -/

namespace Sys2Proof.Machine

/-- SAMPLE_PERIOD (R170). -/
def execSamplePeriod (pins : Pins) (osc : Nat) (s : State) : Answer :=
  .next (s.samplePeriod pins osc).settle.granted

/-- CONTROL_PERIOD (R8). -/
def execControlPeriod (s : State) : Answer :=
  .next (if s.periodDue then s.controlPeriod.settle else s).granted

/-- FADE_COMPLETE (R18). -/
def execFadeComplete (t : Target) (s : State) : Answer :=
  .next (s.fadeEnd t).settle.granted

/-- ACTION_DUE (R91). -/
def execActionDue (s : State) : Answer :=
  .next (match s.dueAction with | some q => if s.running then (s.runDueAction q).settle else s | none => s).granted

/-- FOLLOW_EXPIRED (R85). -/
def execFollowExpired (s : State) : Answer :=
  .next (if s.running && s.followDue then s.expireFollow.settle else s).granted

/-- VOICE_START (R60). -/
def execVoiceStart (voice : Nat) (s : State) : Answer :=
  .next (if s.running then (s.voiceStart voice).settle else s).granted

/-- TAIL_END (R63). -/
def execTailEnd (voice : Nat) (s : State) : Answer :=
  .next (if s.running then s.tailEnd voice else s).granted

/-- CUT_RAMP_END (R62). -/
def execCutRampEnd (voice : Nat) (s : State) : Answer :=
  .next (if s.running then (s.cutRampEnd voice).settle else s).granted

/-- PAUSE_RAMP_END (R62). -/
def execPauseRampEnd (voice : Nat) (s : State) : Answer :=
  .next (if s.running then (s.pauseRampEnd voice).settle else s).granted

/-- PATH_END (R65). -/
def execPathEnd (voice : Nat) (s : State) : Answer :=
  .next (if s.running then (s.pathEnd voice).settle else s).granted

/-- WAIT_EXPIRY (R139). -/
def execWaitExpiry (page : Nat) (s : State) : Answer :=
  .next (if s.running && s.waitExpired page then (s.endPage page .expired).settle else s).granted

/-- LENGTH_EXPIRY (R137). -/
def execLengthExpiry (page : Nat) (s : State) : Answer :=
  .next (if s.running && s.lengthExpired page then (s.endPage page .timeout).settle else s).granted

/-- FLASH_WINDOW_END (R168). -/
def execFlashWindowEnd (s : State) : Answer :=
  .next (if s.running then s.flashEnd else s).granted

/-- INPUT_CHANGE (R159). -/
def execInputChange (input watcherAt : Nat) (first : List Nat) (s : State) : Answer :=
  .next (if s.running && (s.input input).due then (s.inputChange input watcherAt first).settle else s).granted

/-- MEASUREMENT_WINDOW_END (R174). -/
def execMeasurementWindowEnd (s : State) : Answer :=
  .next (if s.running && s.windowDue then s.windowEnd.settle else s).granted

/-- LOSS_EVENT (R174). -/
def execLossEvent (s : State) : Answer :=
  .next (if s.running && s.lossDue then s.lossEvent.settle else s).granted

/-- CHANGEOVER_BOUNDARY (R175). -/
def execChangeoverBoundary (s : State) : Answer :=
  .next (if s.running then s.takeBoundary else s).granted

/-- POLL_TIMER_EXPIRY (R190). -/
def execPollTimerExpiry (s : State) : Answer :=
  .next (if s.running then s.pollExpiry else s).granted

/-- STATUS_PAGE_WRITE (R199). -/
def execStatusPageWrite (s : State) : Answer :=
  .next (if s.statusDue then s.statusPage else s).granted

end Sys2Proof.Machine
end

