-- ==== Sys2Proof/Machine/Dispatch.lean ====
section
/-! DEFINITION. One arm for each row of spec/opcode_table.json: a direct call of its meaning. -/

namespace Sys2Proof.Machine

def exec (i : Instr) (s : State) : Host.Outcome State Fault Refusal :=
  match i with
  | .powerOn => Sys2Proof.Machine.execPowerOn s
  | .registerWrite offset wide value => Sys2Proof.Machine.execRegisterWrite offset wide value s
  | .runWritten1 => Sys2Proof.Machine.execRunWritten1 s
  | .runWritten0 => Sys2Proof.Machine.execRunWritten0 s
  | .softReset => Sys2Proof.Machine.execSoftReset s
  | .wake => Sys2Proof.Machine.execWake s
  | .causeClear bits => Sys2Proof.Machine.execCauseClear bits s
  | .maskWrite value => Sys2Proof.Machine.execMaskWrite value s
  | .rootBlockReadComplete d => Sys2Proof.Machine.execRootBlockReadComplete d s
  | .windowTableReadComplete d pins => Sys2Proof.Machine.execWindowTableReadComplete d pins s
  | .stoppingEnd => Sys2Proof.Machine.execStoppingEnd s
  | .orphanReadReturn d => Sys2Proof.Machine.execOrphanReadReturn d s
  | .readSlotGrant => Sys2Proof.Machine.execReadSlotGrant s
  | .samplePeriod pins osc => Sys2Proof.Machine.execSamplePeriod pins osc s
  | .controlPeriod => Sys2Proof.Machine.execControlPeriod s
  | .fadeComplete t => Sys2Proof.Machine.execFadeComplete t s
  | .actionDue => Sys2Proof.Machine.execActionDue s
  | .followExpired => Sys2Proof.Machine.execFollowExpired s
  | .voiceStart voice => Sys2Proof.Machine.execVoiceStart voice s
  | .tailEnd voice => Sys2Proof.Machine.execTailEnd voice s
  | .cutRampEnd voice => Sys2Proof.Machine.execCutRampEnd voice s
  | .pauseRampEnd voice => Sys2Proof.Machine.execPauseRampEnd voice s
  | .pathEnd voice => Sys2Proof.Machine.execPathEnd voice s
  | .waitExpiry page => Sys2Proof.Machine.execWaitExpiry page s
  | .lengthExpiry page => Sys2Proof.Machine.execLengthExpiry page s
  | .flashWindowEnd => Sys2Proof.Machine.execFlashWindowEnd s
  | .inputChange input watcherAt first => Sys2Proof.Machine.execInputChange input watcherAt first s
  | .measurementWindowEnd => Sys2Proof.Machine.execMeasurementWindowEnd s
  | .lossEvent => Sys2Proof.Machine.execLossEvent s
  | .changeoverBoundary => Sys2Proof.Machine.execChangeoverBoundary s
  | .pollTimerExpiry => Sys2Proof.Machine.execPollTimerExpiry s
  | .statusPageWrite => Sys2Proof.Machine.execStatusPageWrite s
  | .fetchComplete voice d => Sys2Proof.Machine.execFetchComplete voice d s
  | .armingReadComplete fire d => Sys2Proof.Machine.execArmingReadComplete fire d s
  | .sceneReadComplete number d => Sys2Proof.Machine.execSceneReadComplete number d s
  | .chainLinkReadComplete d => Sys2Proof.Machine.execChainLinkReadComplete d s
  | .chainRecordReadComplete d => Sys2Proof.Machine.execChainRecordReadComplete d s
  | .reportLinkReadComplete d => Sys2Proof.Machine.execReportLinkReadComplete d s
  | .loadWindowsReadComplete d => Sys2Proof.Machine.execLoadWindowsReadComplete d s
  | .setLevel r target mode level => Sys2Proof.Machine.execSetLevel r target mode level s
  | .fade r target mode level dur law => Sys2Proof.Machine.execFade r target mode level dur law s
  | .stopFade r target => Sys2Proof.Machine.execStopFade r target s
  | .setSource r source mute => Sys2Proof.Machine.execSetSource r source mute s
  | .setBus r bus mute clear => Sys2Proof.Machine.execSetBus r bus mute clear s
  | .setContrib r bus source level tap dur law => Sys2Proof.Machine.execSetContrib r bus source level tap dur law s
  | .removeContrib r bus source dur law => Sys2Proof.Machine.execRemoveContrib r bus source dur law s
  | .startVoice r voice desc delay => Sys2Proof.Machine.execStartVoice r voice desc delay s
  | .stopVoice r voice mode frames => Sys2Proof.Machine.execStopVoice r voice mode frames s
  | .teardownVoice r voice => Sys2Proof.Machine.execTeardownVoice r voice s
  | .setReserve r voices => Sys2Proof.Machine.execSetReserve r voices s
  | .setSchedule r count voices => Sys2Proof.Machine.execSetSchedule r count voices s
  | .loadBook r book index => Sys2Proof.Machine.execLoadBook r book index s
  | .goto r index => Sys2Proof.Machine.execGoto r index s
  | .go r => Sys2Proof.Machine.execGo r s
  | .hold r => Sys2Proof.Machine.execHold r s
  | .release r => Sys2Proof.Machine.execRelease r s
  | .fire r index => Sys2Proof.Machine.execFire r index s
  | .stopCues r => Sys2Proof.Machine.execStopCues r s
  | .setFoldback r mix f => Sys2Proof.Machine.execSetFoldback r mix f s
  | .recallScene r scene dur law => Sys2Proof.Machine.execRecallScene r scene dur law s
  | .talk r value => Sys2Proof.Machine.execTalk r value s
  | .setZone r zone f => Sys2Proof.Machine.execSetZone r zone f s
  | .setPageButton r button unset f => Sys2Proof.Machine.execSetPageButton r button unset f s
  | .startPage r page => Sys2Proof.Machine.execStartPage r page s
  | .endPage r page => Sys2Proof.Machine.execEndPage r page s
  | .cancelPage r page => Sys2Proof.Machine.execCancelPage r page s
  | .resume r time => Sys2Proof.Machine.execResume r time s
  | .setRoute r function input polarity => Sys2Proof.Machine.execSetRoute r function input polarity s
  | .setInput r input debounce rise fall => Sys2Proof.Machine.execSetInput r input debounce rise fall s
  | .setPattern r mode mask compare action line => Sys2Proof.Machine.execSetPattern r mode mask compare action line s
  | .setOutput r output source group => Sys2Proof.Machine.execSetOutput r output source group s
  | .setClockLimits r warn change hyst => Sys2Proof.Machine.execSetClockLimits r warn change hyst s
  | .selectClock r value => Sys2Proof.Machine.execSelectClock r value s
  | .relock r => Sys2Proof.Machine.execRelock r s
  | .loadWindows r addr count => Sys2Proof.Machine.execLoadWindows r addr count s
  | .setPoll r interval => Sys2Proof.Machine.execSetPoll r interval s
  | .clearFlags r flags => Sys2Proof.Machine.execClearFlags r flags s
  | .mark r value => Sys2Proof.Machine.execMark r value s
  | .wordClockEdge => Sys2Proof.Machine.execWordClockEdge s
  | .writeBusError => Sys2Proof.Machine.execWriteBusError s

end Sys2Proof.Machine
end

