-- ==== Sys2Proof/Safety.lean ====
section
/-! DEFINITION. The terms in which claims are stated: what a command needs to be taken, the state in which
it has finished its record (11, R189, R192), the state in which a report has joined the queue (11, R196),
and what every step keeps: the capacities of 00_scope.md and the CAUSE bits (10, R180). -/

namespace Sys2Proof.Machine

/-! ### Finishing a record -/

/-- A command whose record is at `r` can be taken, and its finish passes its checks: the part is RUNNING, no
notice is outstanding, the in-flight table has a place, no look waits to begin, and both spans of the
finish can be written (11, R189, R190, R192). -/
structure State.Ready (s : State) (r : Link) : Prop where
  running : s.ml.part = .running
  quiet : s.notices = []
  room : s.ml.inflight.length < 8
  noLook : s.ml.reader = .waiting → s.ml.lookOwed = false
  body : s.ml.allows (linkPlus r 9) 15 true = true
  last : s.ml.allows (linkPlus r 8) 1 true = true

/-- The two writes that finish a record at address `a`: result code, reason, flags and stamp first, then the
state, 3 DONE or 4 FAILED (11, R189). -/
def finishWrites (a now : Nat) (res : Result) (why : Reason) (clamped : Bool) : List BusWrite :=
  [⟨[(a + 9, toLe 1 (resultCode res) ++ toLe 1 (reasonCode why) ++ toLe 1 (if clamped then 1 else 0)),
     (a + 16, toLe 8 now)]⟩,
   ⟨[(a + 8, toLe 1 (if res = .ok then 3 else 4))]⟩]

/-- `s` with the record at `r` finished, and nothing else changed. -/
def State.outcome (s : State) (r : Link) (res : Result) (why : Reason := .none) (clamped : Bool := false) :
    State :=
  { s with ml := { s.ml with
      writes := s.ml.writes ++ finishWrites (s.ml.address r) s.ck.now res why clamped } }

/-- `s` with a command put in flight: its slot is taken, and a full table sends the chain reader to BLOCKED
(11, R192). -/
def State.flying (s : State) (r : Link) (kind : Nat) (j : Job) (clamped : Bool := false) : State :=
  { s with ml := { s.ml with
      inflight := s.ml.inflight ++ [⟨r, kind, j, clamped⟩],
      reader := if s.ml.inflight.length = 7 then .blocked else s.ml.reader } }

/-! ### Raising reports -/

/-- A report raised now joins the queue and waits there: the part is RUNNING, the queue is not full, and the
link behind the free-list head is not known (11, R196). -/
structure State.Reports (s : State) (n : Nat) : Prop where
  running : s.ml.part = .running
  room : s.ml.queue.length + n ≤ 64
  unknown : s.ml.nextLink = .unknown

/-- `s` with a report in the queue, and the head slot's link asked for (11, R196). -/
def State.posted (s : State) (cls kind : Nat) (subject d1 d2 : Word) : State :=
  { s with ml := { s.ml with
      queue := s.ml.queue ++ [⟨cls, kind, subject, d1, d2, s.ck.now⟩],
      headWanted := s.ml.headWanted || !s.ml.headReadOut } }

/-- `s` after a window fault of any block but REPORT: MEMORY_FAULT, the last fault and WINDOW_FAULT
(10, R185; 11, R197). -/
def State.faulted (s : State) (l : Link) (b : Block) : State :=
  ({ s with ml := { s.ml with
      cause := s.ml.cause ||| 0x40#32, lastFault := some ⟨l.win, l.off, b⟩ } } : State).posted
    clsSystem repWindowFault (w32 (blockCode b)) (w32 l.win) (w32 l.off)

/-! ### Triggers and voices -/

/-- The state after the trigger of a last cue that has no actions: run and CUE_GO, flash window, the end of the
sequence, and CUE_DONE at once, since the run has nothing left (04, R89, R90, R93; 08, R168). -/
def State.playedLast (s : State) (c : Cue) : State :=
  let n := (s.ce.runCounter + 1) % 2 ^ 32
  ({ s with
    ce := { s.ce with
      runCounter := n, latched := none, follow := .idle, seq := .ended, armed := none, pred := none }
    cu := { s.cu with flash := some (s.ck.now + s.ck.rate / 2 - 1) } } : State).posted
      clsCue repCueGo (w32 n) (w32 c.display) (w32 c.index) |>.posted
      clsCue repCueDone (w32 n) (w32 c.display) (w32 c.index)

/-- A cue stands armed and may be triggered: the run list has a place, and the new run number is not in use. -/
structure State.Stands (s : State) (c : Cue) : Prop where
  standby : s.ce.seq = .standby
  armed : s.ce.armed = some c
  free : s.frozen = false
  room : s.ce.runs.length < 8
  fresh : ∀ r ∈ s.ce.runs, r.number ≠ (s.ce.runCounter + 1) % 2 ^ 32
  noAction : ∀ q ∈ s.ce.queue, q.run ≠ (s.ce.runCounter + 1) % 2 ^ 32
  noFade : ∀ f ∈ s.lv.fades, f.owner ≠ .cue ((s.ce.runCounter + 1) % 2 ^ 32)

/-- What makes `playedLast` the outcome of a trigger: a last cue without actions stands armed. -/
structure State.LastCue (s : State) (c : Cue) : Prop extends State.Stands s c where
  empty : c.actions = []
  noPrimes : c.primes = []
  last : c.next = none

/-- The state after the trigger of a cue that writes output `k` at once and output `k2` after `d` ms, before
cue `n`: the first action has executed, the second is queued for its due sample, CUE_GO is posted, and cue `n`
is being armed with this run as its predecessor (04, R84, R89, R90, R91). -/
def State.playedNext (s : State) (c : Cue) (k v d k2 v2 n : Nat) : State :=
  let run := (s.ce.runCounter + 1) % 2 ^ 32
  (({ s with
    ce := { s.ce with
      runCounter := run, latched := none, follow := .idle, seq := .arming, armed := none,
      seqArm := some ⟨Cue.start n, .index⟩, pred := some ⟨run, .at s.ck.now, none, false⟩,
      runs := s.ce.runs ++ [⟨run, c.index, c.display, s.ck.now⟩],
      queue := insertQueued ⟨.at (s.ck.now + d * s.ck.rate / 1000), run, 1, .setOutput k2 v2, none, none⟩
        (s.ck.now + d * s.ck.rate / 1000) s.ce.queue }
    cu := { s.cu with flash := some (s.ck.now + s.ck.rate / 2 - 1) } } : State).setOutput k
      { s.output k with cueValue := decide (v = 1) }).posted
      clsCue repCueGo (w32 run) (w32 c.display) (w32 c.index)

/-- What makes `playedNext` the outcome of a trigger. -/
structure State.NextCue (s : State) (c : Cue) (k v d k2 v2 n : Nat) : Prop extends State.Stands s c where
  actions : c.actions = [⟨0, .setOutput k v⟩, ⟨d, .setOutput k2 v2⟩]
  noPrimes : c.primes = []
  noPages : c.pages = []
  next : c.next = some n
  delayed : d ≠ 0
  output : 1 ≤ k ∧ k ≤ 16 ∧ v ≤ 1
  place : s.ce.queue.length < 128

/-- A voice is a host's, with nothing waiting on its end: no waiting start, no record in flight, not reserved. -/
structure State.Loose (s : State) (v : Nat) : Prop where
  host : (s.voice v).owner = .host
  noStart : (s.voice v).waiting = none
  noJob : ∀ e ∈ s.ml.inflight, e.job ≠ .startVoice v false ∧ e.job ≠ .teardown v
  kept : inSet s.vu.reserve v = false

/-! ### What every step keeps -/

/-- The capacities of 00_scope.md (01, R13; 04, R89; 05, R103; 06, R128; 08, R161; 10, R187; 11, R192,
R196). -/
structure State.WithinCapacity (s : State) : Prop where
  reads : s.ml.slots.length ≤ 8
  reports : s.ml.queue.length ≤ 64
  inflight : s.ml.inflight.length ≤ 8
  fades : s.lv.fades.length ≤ 1024
  runs : s.ce.runs.length ≤ 8
  actions : s.ce.queue.length ≤ 128
  recalls : s.fb.recalls.length ≤ 16
  pages : s.rc.pages.length ≤ 16
  routes : s.cu.routes.length ≤ 20

/-- The commands by which the host or a reset clears CAUSE bits (10, R179, R180, R181). -/
def clearsCause : Instr → Bool
  | .powerOn => true
  | .softReset => true
  | .registerWrite _ _ _ => true
  | .causeClear _ => true
  | _ => false

/-- Every CAUSE bit set in `s` is set in `t` (10, R180). -/
def State.CauseStays (s t : State) : Prop := ∀ i, s.ml.cause.getLsbD i = true → t.ml.cause.getLsbD i = true

end Sys2Proof.Machine
end

