-- ==== Sys2Proof/Certificates/Slice0/Obligations.lean ====
section
/-! DEFINITION. The statements for the provers. Where a title says so, a clause is the model's own choice and
names its log entry. `Ready`, `Reports`, `outcome`, `posted` and the other terms stand in Safety.lean. Every
command ends with the grants that are due, since a read asked for while a slot is free is granted at once (10,
R187; log 32): `t.granted` is `t` with these grants made, and GrantGoesByUserOrder says what a grant does. -/

open Sys2Proof Sys2Proof.Machine

/-! ### Steps, resets and registers -/

/-- A step carries out the command at the front of the queue with the queue's rest; on an empty queue the
part idles (the model's choice, log 1). Every command answers a next state from every state. -/
def Obligations.StepRunsFrontCommand : Prop :=
  ∀ s : State,
    (∀ c rest, s.pending = c :: rest → step s = exec c { s with pending := rest }) ∧
    (s.pending = [] → step s = .next s) ∧
    (∀ c, ∃ t, exec c s = .next t)

/-- What power-on leaves, from the reset pin or at the start (01, R2, R13; 02, R27, R30; 03, R49, R54, R68;
04, R79, R95; 05, R103; 06, R123, R128; 07, R149; 08, R160, R161; 09, R170, R171; 10, R179, R181). The record
of writes made and the queue outlive it (the model's choice, log 30). The values of State.reset that the spec
calls forgotten, or for which it names no reset value, are the model's choice (log 5). -/
def Obligations.PowerOnLeavesResetValues : Prop :=
  (∀ s : State, exec .powerOn s = .next { State.reset with
      pending := s.pending, choices := s.choices, ml := { Ml.reset with writes := s.ml.writes } }) ∧
  State.reset.ml.part = .stopped ∧ State.reset.ml.run = false ∧ State.reset.ml.root = 0 ∧
  State.reset.ml.cause = 0 ∧ State.reset.ml.mask = 0 ∧
  (∀ c, c < 123 → State.reset.levelOf (.channel c) = off ∧ tget State.reset.mx.mute c true = false) ∧
  (∀ b, b < 25 → State.reset.levelOf (.master b) = 0 ∧ (State.reset.bus b).list = [] ∧
    (State.reset.bus b).mute = false ∧ (State.reset.bus b).clip = 0 ∧ (State.reset.bus b).clamp = false) ∧
  (∀ z, 1 ≤ z → z ≤ 32 → State.reset.levelOf (.duck z) = 0 ∧ (State.reset.zone z).depth = -320 ∧
    (State.reset.zone z).attack = 300 ∧ (State.reset.zone z).release = 1500 ∧
    (State.reset.zone z).holder = none) ∧
  (∀ v, 1 ≤ v → v ≤ 64 → (State.reset.voice v).st = .free) ∧
  (∀ m, 1 ≤ m → m ≤ 16 → (State.reset.mix m).attack = 16 ∧ (State.reset.mix m).release = 1 ∧
    (State.reset.mix m).dimDepth = -192 ∧ (State.reset.mix m).held = false) ∧
  (∀ c, 1 ≤ c → c ≤ 24 → (State.reset.input c).time = 10 ∧ (State.reset.input c).edge = false) ∧
  State.reset.lv.fades = [] ∧ State.reset.vu.table = [] ∧ State.reset.vu.reserve = 0 ∧
  State.reset.ce.seq = .empty ∧ State.reset.ce.hold = false ∧ State.reset.ce.runs = [] ∧
  State.reset.rc.pages = [] ∧ State.reset.il.st = .clear ∧ State.reset.il.resumeTime = 2000 ∧
  State.reset.cu.routes = [] ∧ State.reset.ck.now = 0 ∧ State.reset.ck.warn = 100 ∧
  State.reset.ck.change = 500 ∧ State.reset.ck.hyst = 50 ∧ State.reset.WithinCapacity

/-- A soft reset returns every block to its reset values, keeps ROOT, clears RUN, CAUSE and MASK, and leaves
the reads outstanding in their slots; an orphaned read that returns with data frees its slot and does nothing
else, and a bus error on it sets MEMORY_FAULT (10, R180, R181; that no more of a window fault follows is the
model's reading, log 38, and the reset values that no rule names are its choice, log 5). -/
def Obligations.SoftResetKeepsRootAndReads : Prop :=
  (∀ s : State, exec .softReset s = .next { State.reset with
      pending := s.pending, choices := s.choices,
      ml := { Ml.reset with
        root := s.ml.root, writes := s.ml.writes,
        slots := s.ml.slots.map fun o => { o with use := .orphan } } }) ∧
  (∀ (s : State) (before after : List Outstanding) (addr len : Nat) (link : Link),
    s.ml.slots = before ++ ⟨.orphan, addr, len, link⟩ :: after → (∀ o ∈ before, o.use ≠ .orphan) →
    (∀ b, exec (.orphanReadReturn (.data b)) s =
      .next ({ s with ml := { s.ml with slots := before ++ after } } : State).granted) ∧
    exec (.orphanReadReturn .busError) s = .next ({ s with ml := { s.ml with
      slots := before ++ after, cause := s.ml.cause ||| 0x40#32 } } : State).granted)

/-- Host writes to the register window: ROOT whole or by halves; CONTROL, WAKE, CAUSE and MASK do what the
row of that write does, RESET before RUN; ROOT reads back whole or by halves; CAUSE is cleared bit by bit, MASK
takes its ten bits, a bus error on a write sets MEMORY_FAULT, and the interrupt line shows a bit common to both
(10, R179, R180, R181). -/
def Obligations.RegisterWindowWrites : Prop :=
  (∀ (s : State) (v : Wide), s.notices = [] →
      exec (.registerWrite 0x00 true v) s = .next ({ s with ml := { s.ml with root := v } } : State).granted ∧
      (∃ t : State, exec (.registerWrite 0x00 false v) s = .next t.granted ∧
        t = { s with ml := { s.ml with root := t.ml.root } } ∧
        t.registerRead 0x00 = v.setWidth 32 ∧ t.registerRead 0x04 = s.registerRead 0x04) ∧
      (∃ t : State, exec (.registerWrite 0x04 false v) s = .next t.granted ∧
        t = { s with ml := { s.ml with root := t.ml.root } } ∧
        t.registerRead 0x04 = v.setWidth 32 ∧ t.registerRead 0x00 = s.registerRead 0x00)) ∧
  (∀ s : State, s.registerReadWide 0x00 = s.ml.root ∧ s.registerRead 0x00 = s.ml.root.extractLsb' 0 32 ∧
      s.registerRead 0x04 = s.ml.root.extractLsb' 32 32) ∧
  (∀ (s : State) (v : Wide), s.notices = [] →
      exec (.registerWrite 0x08 false v) s =
        (if v.getLsbD 1 then exec .softReset s
         else if v.getLsbD 0 then exec .runWritten1 s else exec .runWritten0 s) ∧
      exec (.registerWrite 0x0C false v) s = exec .wake s ∧
      exec (.registerWrite 0x10 false v) s = exec (.causeClear (v.setWidth 32)) s ∧
      exec (.registerWrite 0x14 false v) s = exec (.maskWrite (v.setWidth 32)) s) ∧
  (∀ (s : State) (v : Word),
      exec (.causeClear v) s = .next ({ s with ml := { s.ml with cause := s.ml.cause &&& ~~~v } } : State).granted ∧
      exec (.maskWrite v) s = .next ({ s with ml := { s.ml with mask := v &&& 0x3FF#32 } } : State).granted ∧
      exec .writeBusError s = .next ({ s with ml := { s.ml with cause := s.ml.cause ||| 0x40#32 } } : State).granted ∧
      (s.ml.interruptLine = true ↔ ∃ i, s.ml.cause.getLsbD i = true ∧ s.ml.mask.getLsbD i = true))

/-- WAKE and the poll timer owe a look, which a WAITING reader begins at once; neither acts while the part is
not RUNNING, and an expiry restarts the timer (10, R179; 11, R190). -/
def Obligations.LooksOwedByWakeAndPoll : Prop :=
  ∀ s : State,
    (s.ml.part = .running → s.ml.reader = .waiting →
      exec .wake s = .next ({ s with ml := { s.ml with reader := .looking, lookOwed := false } } : State).granted ∧
      exec .pollTimerExpiry s = .next ({ s with ml := { s.ml with
        reader := .looking, lookOwed := false, pollStart := s.ck.now } } : State).granted) ∧
    (s.ml.part = .running → s.ml.reader ≠ .waiting →
      exec .wake s = .next ({ s with ml := { s.ml with lookOwed := true } } : State).granted ∧
      exec .pollTimerExpiry s = .next ({ s with ml := { s.ml with
        lookOwed := true, pollStart := s.ck.now } } : State).granted) ∧
    (s.ml.part ≠ .running → exec .wake s = .next s.granted ∧ exec .pollTimerExpiry s = .next s.granted)

/-! ### Starting and stopping -/

/-- RUN written 1 starts a STOPPED part: its root block is read at once if a read slot is free, and a ROOT of 0
or off a multiple of 64 is a start fault, which clears RUN. A part that is STOPPING, or that ends an abandoned
start, keeps the RUN bit for later, and a write that leaves RUN unchanged is no RUN write (10, R179, R181,
R182, R187; the reset values that no rule names are the model's choice, log 5). -/
def Obligations.RunOneStarts : Prop :=
  ∀ s : State, s.notices = [] →
    (s.ml.run = true → exec .runWritten1 s = .next s.granted) ∧
    (s.ml.run = false → s.ml.part = .stopped → s.ml.root.toNat ≠ 0 → s.ml.root.toNat % 64 = 0 →
      (s.ml.slots.length < 8 → (∀ o ∈ s.ml.slots, isOwnRead o.use = false) →
        exec .runWritten1 s = .next { s with ml := { s.ml with
          run := true, part := .starting, abandoned := false, phase := .root s.ml.root.toNat,
          slots := s.ml.slots ++ [⟨.root, s.ml.root.toNat, 128, ⟨255, 0⟩⟩] } }) ∧
      (8 ≤ s.ml.slots.length →
        exec .runWritten1 s = .next { s with ml := { s.ml with
          run := true, part := .starting, abandoned := false, phase := .root s.ml.root.toNat } })) ∧
    (s.ml.run = false → s.ml.part = .stopped → (s.ml.root.toNat = 0 ∨ s.ml.root.toNat % 64 ≠ 0) →
      exec .runWritten1 s = .next { State.reset with
        pending := s.pending, choices := s.choices,
        ml := { Ml.reset with
          root := s.ml.root, cause := s.ml.cause ||| 0x200#32, mask := s.ml.mask, slots := s.ml.slots,
          writes := s.ml.writes } }) ∧
    (s.ml.run = false → (s.ml.part = .stopping ∨ s.ml.part = .starting ∧ s.ml.abandoned = true) →
      exec .runWritten1 s = .next { s with ml := { s.ml with run := true } })

/-- RUN written 0 while RUNNING enters STOPPING: every command in flight finishes FAILED_ABORTED, in the order
taken, with CLAMPED if it or what it has read was clamped, no report waits any more, recalls end, the closing
period begins at the next boundary, and the fire slot is abandoned with its primes released. While STARTING it
abandons the start, which ends when its read returns, to STOPPED or, with RUN 1 again, to STARTING afresh; in
STOPPING and STOPPED it clears RUN (02, R43; 04, R94; 05, R120; 09, R178; 10, R181, R188; 11, R192, R193, R196;
that a start with no read out ends at once is the model's reading, log 10; the order of the writes and the reset
values that no rule names are its choice, logs 49 and 5). -/
def Obligations.RunZeroStops : Prop :=
  (∀ s : State, s.ml.run = false → exec .runWritten0 s = .next s.granted) ∧
  (∀ s : State, s.ml.run = true → s.ml.part = .running →
    (∀ e ∈ s.ml.inflight, s.ml.allows (linkPlus e.r 9) 15 true = true ∧
      s.ml.allows (linkPlus e.r 8) 1 true = true) →
    let u : State := { s with
      ml := { s.ml with
        run := false, part := .stopping, queue := [], headWanted := false, loads := [], inflight := [],
        reader := .waiting, lookOwed := false,
        writes := s.ml.writes ++ s.ml.inflight.flatMap fun e =>
          finishWrites (s.ml.address e.r) s.ck.now .aborted .none (s.abortClamped e) }
      mx := { s.mx with closingAt := some ((s.ck.now / 64 + 1) * 64), closingDone := false }
      fb := { s.fb with recalls := [] }
      ck := { s.ck with external := false, selected := false } }
    (s.ce.fire = .idle → exec .runWritten0 s = .next u) ∧
    (∀ c a v, s.ce.fire = .waiting → s.ce.fireArm = none → s.ce.fireCue = some c →
      c.primes = [⟨a, v, .primed⟩] → (∀ o ∈ s.ml.slots, o.use ≠ .arming true true) → 1 ≤ v → v ≤ 64 →
      (s.voice v).st = .primed → (s.voice v).owner = .await true → (s.voice v).fetch = none →
      (s.voice v).waiting = none →
      exec .runWritten0 s = .next { (u.setVoice v Voice.reset) with
        ce := { s.ce with fire := .idle, fireArm := none, fireCue := none } })) ∧
  (∀ (s : State) (e : InFlight),
    (∀ n q, e.job = .scene n → s.recallOf n = some q → s.abortClamped e = (e.clamped || q.clamped)) ∧
    (∀ c, e.job = .fireArm → s.ce.fireArm = none → s.ce.fireCue = some c →
      s.abortClamped e = (e.clamped || decide (0 < c.clamps))) ∧
    (e.job = .relock ∨ e.job = .loadWindows → s.abortClamped e = e.clamped)) ∧
  (∀ s : State, s.ml.run = true →
    (s.ml.part = .starting → (∃ o ∈ s.ml.slots, o.use = .root ∨ o.use = .startTable) →
      exec .runWritten0 s = .next { s with ml := { s.ml with run := false, abandoned := true } }) ∧
    (s.ml.part = .starting → (∀ o ∈ s.ml.slots, o.use ≠ .root ∧ o.use ≠ .startTable) →
      exec .runWritten0 s = .next { State.reset with
        pending := s.pending, choices := s.choices,
        ml := { Ml.reset with
          root := s.ml.root, cause := s.ml.cause, mask := s.ml.mask, slots := s.ml.slots,
          writes := s.ml.writes } }) ∧
    (s.ml.part = .stopping ∨ s.ml.part = .stopped →
      exec .runWritten0 s = .next { s with ml := { s.ml with run := false } })) ∧
  (∀ (s : State) (addr : Nat) (link : Link) (b : List Byte), s.ml.part = .starting → s.ml.abandoned = true →
    s.ml.slots = [⟨.root, addr, 128, link⟩] →
    (s.ml.run = false →
      exec (.rootBlockReadComplete (.data b)) s = .next { State.reset with
        pending := s.pending, choices := s.choices,
        ml := { Ml.reset with
          root := s.ml.root, cause := s.ml.cause, mask := s.ml.mask, writes := s.ml.writes } }) ∧
    (s.ml.run = true → s.ml.root.toNat ≠ 0 → s.ml.root.toNat % 64 = 0 →
      exec (.rootBlockReadComplete (.data b)) s = .next { State.reset with
        pending := s.pending, choices := s.choices,
        ml := { Ml.reset with
          root := s.ml.root, cause := s.ml.cause, mask := s.ml.mask, writes := s.ml.writes, run := true,
          part := .starting, phase := .root s.ml.root.toNat,
          slots := [⟨.root, s.ml.root.toNat, 128, ⟨255, 0⟩⟩] } }))

/-- The root block is judged by its own fields and kept with its intervals clamped, and the window table is
read next, at once; a bad field is a start fault (10, R182, R187; the reset values that no rule names are the
model's choice, log 5). -/
def Obligations.RootBlockIsJudged : Prop :=
  ∀ (s : State) (addr : Nat) (link : Link) (b : List Byte), s.ml.part = .starting → s.notices = [] →
    s.ml.slots = [⟨.root, addr, 128, link⟩] → s.ml.abandoned = false →
    ((fieldAt b 0 4 = 48000 ∨ fieldAt b 0 4 = 96000) → fieldAt b 4 1 ≤ 1 → fieldAt b 16 8 % 16 = 0 →
      1 ≤ fieldAt b 24 1 → fieldAt b 24 1 ≤ 16 →
      ∃ c : Setup, exec (.rootBlockReadComplete (.data b)) s = .next { s with ml := { s.ml with
          slots := [⟨.startTable, c.tableAddr, 16 * c.count, ⟨255, 0⟩⟩], setup := some c, phase := .table } } ∧
        c.rate = fieldAt b 0 4 ∧ c.external = decide (fieldAt b 4 1 = 1) ∧
        c.enables.toNat = fieldAt b 5 1 % 256 ∧
        c.poll = min (max (fieldAt b 8 4) 100) 100000 ∧ c.meter = min (max (fieldAt b 12 4) 10) 1000 ∧
        c.tableAddr = fieldAt b 16 8 ∧ c.count = fieldAt b 24 1 ∧
        c.chainStart = linkAt b 32 ∧ c.freeHead = linkAt b 40 ∧ c.anchor = linkAt b 48 ∧
        c.status = linkAt b 56) ∧
    ((fieldAt b 0 4 ≠ 48000 ∧ fieldAt b 0 4 ≠ 96000 ∨ fieldAt b 4 1 > 1 ∨ fieldAt b 16 8 % 16 ≠ 0 ∨
        fieldAt b 24 1 = 0 ∨ fieldAt b 24 1 > 16) →
      exec (.rootBlockReadComplete (.data b)) s = .next { State.reset with
        pending := s.pending, choices := s.choices,
        ml := { Ml.reset with
          root := s.ml.root, cause := s.ml.cause ||| 0x200#32, mask := s.ml.mask,
          writes := s.ml.writes } })

/-- A window table whose windows carry the four links enters RUNNING at sample 0, with a look under way and
the inputs as the contacts stand; one that does not carry them is a start fault (08, R159; 09, R170, R171;
10, R182; 11, R190, R196; the reset values that no rule names are the model's choice, log 5). -/
def Obligations.WindowTableEntersRunning : Prop :=
  ∀ (s : State) (addr len : Nat) (link : Link) (b : List Byte) (p : Pins) (c : Setup),
    s.ml.slots = [⟨.startTable, addr, len, link⟩] → s.ml.abandoned = false → s.ml.setup = some c →
    (({ s.ml with windows := windowSet b c.count }).linksOk c = true →
      ∃ t : State, exec (.windowTableReadComplete (.data b) p) s = .next t.granted ∧
        t.ml = { s.ml with
          slots := [], windows := windowSet b c.count, part := .running, phase := .idle,
          position := some c.chainStart, reader := .looking, lookOwed := false, pollInterval := c.poll,
          pollStart := 0, freeHead := some c.freeHead, nextLink := .unknown, anchor := some c.anchor,
          nextStatus := 0 } ∧
        t.ck.now = 0 ∧ t.ck.rate = c.rate ∧
        t.ck.st = (if c.external then .extAcquiring else s.ck.st) ∧
        (∀ i, 1 ≤ i → i ≤ 24 → (t.input i).closed = p.contacts.getLsbD (i - 1) ∧ (t.input i).count = 0) ∧
        t.lv = s.lv ∧ t.vu = s.vu ∧ t.ce = s.ce ∧ t.fb = s.fb ∧ t.rc = s.rc ∧ t.il = s.il ∧
        t.cu.routes = s.cu.routes ∧ t.cu.outputs = s.cu.outputs ∧ t.mx.buses = s.mx.buses) ∧
    (({ s.ml with windows := windowSet b c.count }).linksOk c = false →
      exec (.windowTableReadComplete (.data b) p) s = .next { State.reset with
        pending := s.pending, choices := s.choices,
        ml := { Ml.reset with
          root := s.ml.root, cause := s.ml.cause ||| 0x200#32, mask := s.ml.mask,
          writes := s.ml.writes } })

/-- STOPPING ends once no read is outstanding and the closing period has been computed: the last status page is
written and every block takes its reset values; with RUN 0 the part is STOPPED. A last page whose span may not be
written is a window fault of block STATUS and posts WINDOW_FAULT, which is written out, with its REPORT bit, where
the next link is known, and else forgotten with the queue. Before the end the event does nothing (10, R185, R188;
11, R196, R197, R199; when the closing period counts as computed is the model's reading, log 12, and so are the
bytes of the page that no rule gives, logs 45 and 51, that STOPPING still posts this report, log 50, and the reset
values that no rule names, log 5). -/
def Obligations.StoppingEndsAtReset : Prop :=
  ∀ (s : State) (c : Setup), s.ml.part = .stopping → s.ml.setup = some c →
    (s.ml.slots = [] → s.mx.closingDone = true → s.ml.run = false →
      s.ml.allows c.status 4096 true = true →
      exec .stoppingEnd s = .next { State.reset with
        pending := s.pending, choices := s.choices,
        ml := { Ml.reset with
          root := s.ml.root, cause := s.ml.cause, mask := s.ml.mask,
          writes := s.ml.writes ++
            [⟨[(s.ml.address c.status, toLe 4 (s.ml.statusCount + 1))]⟩,
             ⟨s.statusBody.map fun x => (s.ml.address c.status + x.1, x.2)⟩,
             ⟨[(s.ml.address c.status, toLe 4 (s.ml.statusCount + 2))]⟩] } }) ∧
    (s.ml.slots = [] → s.mx.closingDone = true → s.ml.run = false →
      s.ml.allows c.status 4096 true = false → s.ml.queue.length < 64 →
      s.ml.nextLink = .unknown ∨ s.ml.nextLink = .endOfList →
      exec .stoppingEnd s = .next { State.reset with
        pending := s.pending, choices := s.choices,
        ml := { Ml.reset with
          root := s.ml.root, cause := s.ml.cause ||| 0x40#32, mask := s.ml.mask, writes := s.ml.writes } }) ∧
    (∀ n h a, s.ml.slots = [] → s.mx.closingDone = true → s.ml.run = false →
      s.ml.allows c.status 4096 true = false → s.ml.queue = [] → s.ml.nextLink = .known n →
      s.ml.freeHead = some h → s.ml.anchor = some a → s.ml.allows h 32 true = true → s.ml.allows a 8 true = true →
      exec .stoppingEnd s = .next { State.reset with
        pending := s.pending, choices := s.choices,
        ml := { Ml.reset with
          root := s.ml.root, mask := s.ml.mask
          cause := s.ml.cause ||| 0x40#32 ||| (if c.enables.getLsbD clsSystem then 0x8#32 else 0#32)
          writes := s.ml.writes ++
            [⟨reportRuns (s.ml.address h) ⟨clsSystem, repWindowFault, w32 (blockCode .status), w32 c.status.win,
                w32 c.status.off, s.ck.now⟩⟩,
             ⟨[(s.ml.address a, linkBytes h)]⟩] } }) ∧
    (s.ml.slots ≠ [] ∨ s.mx.closingDone = false → exec .stoppingEnd s = .next s)

/-- A read slot goes to the first user that waits, in the order of the rule: the memory link's own reads, the
report writer, the chain reader, the sequence arming, the fire arming, the recalls by number, the fetch walker.
Each read is checked when it is issued, but for the link's own; one that fails holds no slot, is a window fault
of its block, and ends as its chapter says. With eight reads outstanding none is granted. Every command ends
with the grants that are due (03, R55, R57; 04, R80, R94; 05, R115, R120; 10, R185, R187; 11, R190, R191, R196,
R198; that the requests of one command count as one moment is the model's reading, log 32; what a FREE voice holds
where no rule names it is its choice, log 5). -/
def Obligations.GrantGoesByUserOrder : Prop :=
  (∀ s : State, (s.grantDue = none → s.granted = s) ∧ (8 ≤ s.ml.slots.length → s.grantDue = none)) ∧
  (∀ (c : Instr) (s t : State), exec c s = .next t → ∃ u : State, t = u.granted) ∧
  (∀ s : State, s.ml.part = .running → s.notices = [] → s.ml.slots.length < 8 →
    (∀ q rest, s.ml.loads = q :: rest → (∀ o ∈ s.ml.slots, isOwnRead o.use = false) →
      exec .readSlotGrant s = .next ({ s with ml := { s.ml with
        loads := rest, slots := s.ml.slots ++ [⟨.loadWindows q.r q.count, q.addr, 16 * q.count, ⟨255, 0⟩⟩] } }
          : State).granted) ∧
    (∀ h, s.ml.loads = [] → s.ml.headWanted = true → s.ml.headReadOut = false → s.ml.freeHead = some h →
      (s.ml.allows h 8 false = true →
        exec .readSlotGrant s = .next ({ s with ml := { s.ml with
          headWanted := false, slots := s.ml.slots ++ [⟨.reportHead, s.ml.address h, 8, h⟩] } } : State).granted) ∧
      (∀ r, s.ml.allows h 8 false = false → s.ml.queue = [r] → r.cls < 4 →
        tget s.ml.lost r.cls 0 < 2 ^ 32 - 1 →
        exec .readSlotGrant s = .next ({ s with ml := { s.ml with
          headWanted := false, queue := [], cause := s.ml.cause ||| 0x40#32 ||| 0x10#32,
          lastFault := some ⟨h.win, h.off, .report⟩,
          lost := tset s.ml.lost r.cls (tget s.ml.lost r.cls 0 + 1) } } : State).granted)) ∧
    (∀ l, s.ml.loads = [] → s.ml.headWanted = false →
      (∀ o ∈ s.ml.slots, o.use ≠ .chainLink ∧ ∀ k, o.use ≠ .chainRecord k) →
      (s.ml.reader = .looking → s.ml.position = some l → s.ml.allows l 8 false = true →
        exec .readSlotGrant s = .next ({ s with ml := { s.ml with
          slots := s.ml.slots ++ [⟨.chainLink, s.ml.address l, 8, l⟩] } } : State).granted) ∧
      (s.ml.reader = .reading l → s.ml.allows l 128 false = true →
        exec .readSlotGrant s = .next ({ s with ml := { s.ml with
          slots := s.ml.slots ++ [⟨.chainRecord l, s.ml.address l, 128, l⟩] } } : State).granted) ∧
      (s.ml.reader = .looking ∧ s.ml.position = some l ∧ s.ml.allows l 8 false = false ∨
          s.ml.reader = .reading l ∧ s.ml.allows l 128 false = false → s.ml.lookOwed = false → s.Reports 1 →
        exec .readSlotGrant s = .next
          (({ s with ml := { s.ml with reader := .waiting } } : State).faulted l .chain).granted))) ∧
  (∀ (s : State) (fire : Bool) (a : Arming) (k : Link), s.ml.part = .running → s.notices = [] →
    s.ml.slots.length < 8 → s.ml.loads = [] → s.ml.headWanted = false →
    (s.ml.reader = .waiting ∨ s.ml.reader = .blocked) → (fire = true → s.ce.seqArm = none) →
    s.arming fire = some a → a.step = .index → s.ce.book = some k →
    (∀ o ∈ s.ml.slots, ∀ live, o.use ≠ .arming fire live) →
    (s.ml.allows (linkPlus k (8 * a.cue.index)) 8 false = true →
      exec .readSlotGrant s = .next ({ s with ml := { s.ml with
        slots := s.ml.slots ++ [⟨.arming fire true, s.ml.address (linkPlus k (8 * a.cue.index)), 8,
          linkPlus k (8 * a.cue.index)⟩] } } : State).granted) ∧
    (s.ml.allows (linkPlus k (8 * a.cue.index)) 8 false = false → s.Reports 2 → a.cue.primes = [] →
      s.ce.latched = none → (∀ e ∈ s.ml.inflight, e.job ≠ armJob fire) →
      exec .readSlotGrant s = .next ({ ((s.faulted (linkPlus k (8 * a.cue.index)) .cue).posted clsCue repBookFault
          (w32 a.cue.index) (w32 (bookReasonCode .window)) (w32 (if fire then 1 else 0))) with
        ce := if fire then { s.ce with fire := .idle, fireArm := none }
          else { s.ce with seq := .faulted, seqArm := none, armed := none } } : State).granted)) ∧
  (∀ s : State, s.ml.part = .running → s.notices = [] → s.ml.slots.length < 8 → s.ml.loads = [] →
    s.ml.headWanted = false → (s.ml.reader = .waiting ∨ s.ml.reader = .blocked) → s.ce.seqArm = none →
    s.ce.fireArm = none →
    (∀ q x, s.fb.recalls = [x, q] → q.number < x.number → q.step = .header →
      (∀ o ∈ s.ml.slots, ∀ n, o.use ≠ .scene n) →
      (s.ml.allows (linkPlus q.link q.pos) 8 false = true →
        exec .readSlotGrant s = .next ({ s with ml := { s.ml with
          slots := s.ml.slots ++ [⟨.scene q.number, s.ml.address (linkPlus q.link q.pos), 8,
            linkPlus q.link q.pos⟩] } } : State).granted) ∧
      (s.ml.allows (linkPlus q.link q.pos) 8 false = false → s.Reports 2 →
        (∀ e ∈ s.ml.inflight, e.job ≠ .scene q.number) →
        exec .readSlotGrant s = .next ({ ((s.faulted (linkPlus q.link q.pos) .scene).posted clsAudio
            repSceneSkipped (w32 0) (w32 q.scene) (w32 (sceneReasonCode .window))) with
          fb := { s.fb with recalls := [x] } } : State).granted)) ∧
    (∀ v d, s.fb.recalls = [] → 1 ≤ v → v ≤ 64 → s.vu.table = [v] → s.vu.index = 0 →
      (s.voice v).st ≠ .free → (s.voice v).st ≠ .draining → (s.voice v).blocks.length < 8 →
      (s.voice v).fetch = none → (s.voice v).pos.idx ≤ (s.voice v).fpos.idx → (s.voice v).fpos.done = false →
      (s.voice v).fpos.second = false → (s.voice v).desc = some d →
      let x := s.voice v
      let n := runLength d x.fpos
      let l : Link := ⟨d.win, d.off + 4 * x.fpos.frame⟩
      (s.ml.allows l (4 * n) false = true →
        exec .readSlotGrant s = .next ({ (s.setVoice v { x with
            fpos := advance x.desc x.desc2 n x.fpos, blocks := freePassed x.blocks x.pos.idx,
            fetch := some ⟨x.fpos.idx, false, x.fpos.frame, n, false⟩ }) with
          ml := { s.ml with slots := s.ml.slots ++ [⟨.fetch v, s.ml.address l, 4 * n, l⟩] } } : State).granted) ∧
      (s.ml.allows l (4 * n) false = false → s.Loose v → s.Reports 3 →
        exec .readSlotGrant s = .next ((((s.faulted l .voice).posted clsAudio repVoiceFault (w32 v) (w32 l.win)
          (w32 x.fpos.frame)).posted clsAudio repVoiceEnd (w32 v) (w32 (endCauseCode .fault))
          (w32 x.underruns)).setVoice v Voice.reset).granted)))

/-! ### Time -/

/-- A sample period in which nothing is due: the show clock, the measurement window and the gap count on, every
input counts its debounce by its raw contact, and the period's frame gains one sample. With no voice sounding
nothing else changes. A voice that sounds supplies its frame under its envelope, whose ramp moves on, advances
along its path and counts its tail; where its frame is not held it supplies zero, and an episode that begins
counts an underrun and posts VOICE_UNDERRUN once. While STOPPED the row does nothing (02, R27; 03, R52, R53,
R58, R61, R63; 08, R159; 09, R170, R172). -/
def Obligations.SamplePeriodCounts : Prop :=
  ∀ (s : State) (p : Pins) (osc : Nat), s.notices = [] →
    (s.ml.part = .running → s.dueStep = none → (∀ v, (s.voice v).sounds = false) →
      ∃ t : State, exec (.samplePeriod p osc) s = .next t.granted ∧
        t.ck = { s.ck with
          now := s.ck.now + 1,
          windowPos := s.ck.windowPos + (if s.ck.external then osc else 1),
          gap := s.ck.gap + (if s.ck.external then osc else 1) } ∧
        (∀ c, 1 ≤ c → c ≤ 24 → t.input c =
          if p.contacts.getLsbD (c - 1) = (s.input c).closed then { s.input c with count := 0, due := false }
          else { s.input c with
            count := (s.input c).count + 1, due := decide (s.debounceSamples c ≤ (s.input c).count + 1) }) ∧
        (∃ f : Frame, t.mx.frames = s.mx.frames ++ [f] ∧ f.inputs = (p.slots.take 59).map BitVec.toInt ∧
          ∀ v, 1 ≤ v → v ≤ 64 → tget f.voices (v - 1) 0 = 0) ∧
        t = { s with
          ck := t.ck, cu := { s.cu with inputs := t.cu.inputs }, mx := { s.mx with frames := t.mx.frames } }) ∧
    (∀ v, 1 ≤ v → v ≤ 64 → s.ml.part = .running → s.dueStep = none →
      (∀ u, 1 ≤ u → u ≤ 64 → u ≠ v → (s.voice u).sounds = false) →
      ((s.voice v).st = .playing ∨ (s.voice v).st = .tailing) → (s.voice v).pos.done = false →
      (s.voice v).desc2 = none →
      let x := s.voice v
      let env : Int := match x.ramp with
        | none => x.env
        | some r => r.v0 + ((r.v1 - r.v0) * ((r.i : Int) + 1)).tdiv 64
      let pos := nextPos x.desc none x.pos
      let y : Voice := { x with
        env := env,
        ramp := match x.ramp with
          | none => none
          | some r => if r.i < 63 then some { r with i := r.i + 1 } else none
        pos := pos, blocks := x.blocks.filter fun b => decide (pos.idx < b.idx + b.words.length),
        tail := if x.st = .tailing ∧ x.stop ≠ .cut then x.tail - 1 else x.tail }
      let gives := fun (z : Voice) (out : Int) (m : Ml) =>
        ∃ (t : State) (f : Frame), exec (.samplePeriod p osc) s = .next t.granted ∧
          t.mx.frames = s.mx.frames ++ [f] ∧ tget f.voices (v - 1) 0 = out ∧ t.voice v = z ∧
          (∀ u, 1 ≤ u → u ≤ 64 → u ≠ v → t.voice u = s.voice u ∧ tget f.voices (u - 1) 0 = 0) ∧
          t.ck.now = s.ck.now + 1 ∧
          t = { s with
            ck := t.ck, cu := { s.cu with inputs := t.cu.inputs }, mx := { s.mx with frames := t.mx.frames },
            vu := { s.vu with voices := t.vu.voices }, ml := m }
      (∀ w, heldWord x.blocks x.pos.idx = some w →
        gives { y with inUnderrun := false } ((frameValue w * env).tdiv 32768) s.ml) ∧
      (heldWord x.blocks x.pos.idx = none → x.inUnderrun = false → x.underrunReported = false →
        x.underruns < 65535 → x.owner = .host → s.Reports 1 →
        gives { y with inUnderrun := true, underruns := x.underruns + 1, underrunReported := true } 0
          (({ s with ck := { s.ck with now := s.ck.now + 1 } } : State).posted clsAudio repVoiceUnderrun (w32 v)
            (w32 x.pos.frame) (voiceOwnerWord .host)).ml) ∧
      (heldWord x.blocks x.pos.idx = none → x.inUnderrun = true → gives y 0 s.ml)) ∧
    (s.ml.part = .stopped → exec (.samplePeriod p osc) s = .next s)

/-- A control period in which no fade ends. Levels: every entry that is not frozen moves one step along its law,
a frozen one stands, every other target keeps its value. Mix: every bus carries the saturated sums of its paths
over the period that has ended, counts a clip and keeps its peak; the limiters step on these peaks; each page
has its page audio; then every path starts from the gain it had reached and goes to the gain its terms give,
with the clamp flags, a tail falls to silence and goes, and each zone computes its output from RF and its page.
At the first period nothing has ended yet, and nothing is mixed. Nothing else changes. Off its boundary the row
does nothing (01, R8, R12, R18; 02, R35, R36, R37, R39, R40, R41; 05, R108; 06, R124, R125). -/
def Obligations.ControlPeriodStepsFades : Prop :=
  ∀ s : State, s.ml.part = .running → s.notices = [] →
    (s.mx.nextPeriod ≤ s.ck.now → (s.lv.fades.map (·.target)).Nodup →
      (∀ f ∈ s.lv.fades, f.target.wf = true ∧ f.k + 1 < f.d ∧
        ∀ b c, f.target = .crosspoint b c → (s.contrib b c).isSome = true) →
      let ended := s.mx.frames.dropLast
      let sum := fun (b j : Nat) => ((s.paths b).map fun p => ((s.sourceSamples ended p.1).getD j 0 *
        (p.2.gp + ((p.2.gn - p.2.gp) * ((j : Int) + 1)).tdiv 64)).tdiv 32768).sum
      let talk := fun (m : Nat) (t : State) =>
        formGain (!(s.mix m).gate || s.sourceMuted 122 || (s.bus (m + 7)).mute) (t.talkTerms m)
      ∃ t : State, exec .controlPeriod s = .next t.granted ∧
        t.lv.fades = s.lv.fades.map (fun f => if f.frozen then f else { f with k := f.k + 1 }) ∧
        (∀ f ∈ s.lv.fades, t.levelOf f.target =
          if f.frozen then s.levelOf f.target else fadeLevel f.s f.t f.d (f.k + 1) f.law) ∧
        (∀ x : Target, x.wf = true → (∀ f ∈ s.lv.fades, f.target ≠ x) → t.levelOf x = s.levelOf x) ∧
        (0 < s.ck.now →
          (∀ b, b < 25 →
            (∀ j, j < 64 → (t.bus b).out.getD j 0 = max (-8388608) (min 8388607 (sum b j))) ∧
            (t.bus b).clip = (if (List.range 64).any (fun j => decide (sum b j < -8388608 ∨ 8388607 < sum b j))
              then min ((s.bus b).clip + 1) 65535 else (s.bus b).clip) ∧
            (t.bus b).peak = max (s.bus b).peak (peakOf (t.bus b).out)) ∧
          (∀ m, 1 ≤ m → m ≤ 16 → tget t.lv.reduction (m - 1) 0 =
            limiterStep (s.mix m).ceiling (s.mix m).attack (s.mix m).release (peakOf (t.bus (m + 7)).out)
              (tget s.lv.reduction (m - 1) 0)) ∧
          t.rc.pages = s.rc.pages.map (fun p => { p with
            gateAtStart := p.gate,
            audio := ended.map fun f => saturate (((f.pages.find? (·.1 == p.arrival)).map (·.2)).getD 0 +
              (if p.live && p.gateAtStart then f.inputs.getD (55 + p.mic) 0 else 0)) })) ∧
        (s.ck.now = 0 →
          (∀ b, b < 25 → (t.bus b).out = (s.bus b).out ∧ (t.bus b).clip = (s.bus b).clip ∧
            (t.bus b).peak = (s.bus b).peak) ∧
          t.lv.reduction = s.lv.reduction ∧
          t.rc.pages = s.rc.pages.map fun p => { p with gateAtStart := p.gate }) ∧
        (∀ b, b < 25 →
          (t.bus b).mute = (s.bus b).mute ∧
          (t.bus b).list = (s.bus b).list.map (fun x =>
            let y := { x with level := match s.fadeOn (.crosspoint b x.source) with
              | some f => if f.frozen then x.level else fadeLevel f.s f.t f.d (f.k + 1) f.law
              | none => x.level }
            { y with path := ⟨x.path.gn,
              (formGain (s.sourceMuted x.source || (s.bus b).mute) (t.terms b y)).1⟩ }) ∧
          (t.bus b).tails = ((s.bus b).tails.filter fun x => !x.falling).map (fun x =>
            ⟨x.source, ⟨x.path.gn, 0⟩, true⟩) ∧
          (t.bus b).clamp = ((s.bus b).clamp ||
            ((t.bus b).list.any fun x =>
              (formGain (s.sourceMuted x.source || (s.bus b).mute) (t.terms b x)).2) ||
            (isFoldback b && (talk (b - 7) t).2))) ∧
        (∀ m, 1 ≤ m → m ≤ 16 → tget t.mx.talkPaths (m - 1) Path.zero =
          ⟨(tget s.mx.talkPaths (m - 1) Path.zero).gn, (talk m t).1⟩) ∧
        (∀ z, 1 ≤ z → z ≤ 32 → ∃ prog page : Path,
          prog.gp = (s.zone z).progPath.gn ∧ page.gp = (s.zone z).pagePath.gn ∧
          page.gn = (match t.holderPage (s.zone z) with
            | some p => (formGain (p.st != .onAir) [(s.zone z).pageLevel]).1
            | none => 0) ∧
          prog.gn = (formGain (!(s.zone z).programme) [t.levelOf (.zoneLevel z), t.levelOf (.duck z),
            t.levelOf (.zoneInterlock z)]).1 ∧
          t.zone z = { s.zone z with
            progPath := prog, pagePath := page, sent := (s.zone z).out,
            out := (List.range 64).map fun j => saturate (scale ((t.bus 24).out.getD j 0) (rampGain prog j) +
              scale ((match t.holderPage (s.zone z) with | some p => p.audio | none => silence).getD j 0)
                (rampGain page j)) }) ∧
        t.mx = { s.mx with
          buses := t.mx.buses, talkPaths := t.mx.talkPaths, nextPeriod := s.mx.nextPeriod + 64,
          frames := s.mx.frames.drop (s.mx.frames.length - 1) } ∧
        t.rc = { s.rc with zones := t.rc.zones, pages := t.rc.pages } ∧
        t = { s with lv := t.lv, mx := t.mx, rc := t.rc }) ∧
    (s.ck.now < s.mx.nextPeriod → exec .controlPeriod s = .next s.granted)

/-- A host fade of a channel that reaches its duration leaves its target at T, and the table; before its last
step, or frozen, the row does nothing. The duck fade of a zone whose LIVE page stands in ATTACK is completed in
the same way, and the page goes on air (01, R15, R18; 06, R134, R135; 95, FADE_COMPLETE). -/
def Obligations.FadeCompletesAtTarget : Prop :=
  (∀ (s : State) (c : Nat) (f : Fade), s.ml.part = .running → s.notices = [] → s.mx.nextPeriod ≤ s.ck.now →
    s.fadeOn (.channel c) = some f → f.owner = .host → f.remove = false →
    (f.frozen = false → f.d ≤ f.k + 1 →
      exec (.fadeComplete (.channel c)) s = .next ({ s with lv := { s.lv with
        channel := s.lv.channel.setIfInBounds c f.t,
        fades := s.lv.fades.filter fun g => !(g.target == .channel c) } } : State).granted) ∧
    (f.frozen = true ∨ f.k + 1 < f.d → exec (.fadeComplete (.channel c)) s = .next s.granted)) ∧
  (∀ (s : State) (z : Nat) (f : Fade) (p : Page), s.ml.part = .running → s.notices = [] →
    s.mx.nextPeriod ≤ s.ck.now → 1 ≤ z → z ≤ 32 → s.fadeOn (.duck z) = some f → f.owner = .relay z →
    f.remove = false → f.frozen = false → f.d ≤ f.k + 1 → (s.zone z).duckFade = .attack →
    (s.zone z).holder = some p.id → (∀ y, 1 ≤ y → y ≤ 32 → y ≠ z → (s.zone y).holder = none) →
    s.rc.pages = [p] → p.st = .attack → p.live = true → p.voice = none → s.Reports 1 →
    ∃ (t : State) (q : Page), exec (.fadeComplete (.duck z)) s = .next t.granted ∧
      t.lv = { s.lv with
        duck := s.lv.duck.setIfInBounds (z - 1) f.t,
        fades := s.lv.fades.filter fun g => !(g.target == .duck z) } ∧
      t.rc.pages = [q] ∧ q = { p with
        st := .onAir, gate := true, lengthExpiry := some (s.ck.now + p.liveLimit * s.ck.rate) } ∧
      t.zone z = { s.zone z with duckFade := .none } ∧ t.rc.onAir = (s.zone z).groups ∧
      t.ml = (s.posted clsPage repPageOnAir (w32 p.id) (BitVec.twoPow 32 (z - 1)) (w32 p.priority)).ml ∧
      t = { s with lv := t.lv, rc := t.rc, ml := t.ml })

/-- A due SET_OUTPUT action of a run with more to come leaves the queue and writes the output's cue value; one
out of range is skipped with reason RANGE. While frozen, when a due sample is kept as a remaining count, the row
does nothing (04, R91, R92, R96; 08, R167). -/
def Obligations.DueActionExecutes : Prop :=
  (∀ (s : State) (q : Queued) (rest : List Queued) (d k v : Nat),
    s.ml.part = .running → s.notices = [] → s.ce.queue = q :: rest → q.due = .at d → d ≤ s.ck.now →
    q.body = .setOutput k v → (∃ x ∈ rest, x.run = q.run) →
    (s.frozen = false → 1 ≤ k → k ≤ 16 → v ≤ 1 →
      exec .actionDue s = .next (({ s with ce := { s.ce with queue := rest } } : State).setOutput k
        { s.output k with cueValue := decide (v = 1) }).granted) ∧
    (s.frozen = false → s.Reports 1 → (k = 0 ∨ 16 < k ∨ 1 < v) →
      exec .actionDue s = .next (({ s with ce := { s.ce with queue := rest } } : State).posted clsCue
        repActionSkipped (w32 q.run) (w32 q.act) (w32 (skipCode .range))).granted)) ∧
  (∀ (s : State) (q : Queued) (rest : List Queued), s.ce.queue = q :: rest →
    (s.frozen = true ∨ ∃ n, q.due = .remaining n) → exec .actionDue s = .next s.granted)

/-- A follow timer whose due sample is reached expires: in ARMING it stands EXPIRED, in STANDBY it triggers the
armed cue, the last of its book or one with actions and a next cue; before its sample, or frozen, when its due
sample is kept as a remaining count, the row does nothing (04, R84, R85, R89, R90, R91, R93, R96). -/
def Obligations.FollowTimerExpires : Prop :=
  (∀ (s : State) (d : Nat), s.ml.part = .running → s.notices = [] → s.ce.follow = .counting (.at d) →
    (d ≤ s.ck.now → s.frozen = false → s.ce.seq = .arming → s.ce.armed = none →
      exec .followExpired s = .next ({ s with ce := { s.ce with follow := .expired } } : State).granted) ∧
    (∀ c, d ≤ s.ck.now → s.LastCue c → s.Reports 2 → exec .followExpired s = .next (s.playedLast c).granted) ∧
    (∀ c k v w k2 v2 n, d ≤ s.ck.now → s.NextCue c k v w k2 v2 n → s.Reports 1 →
      exec .followExpired s = .next (s.playedNext c k v w k2 v2 n).granted) ∧
    (s.ck.now < d ∨ s.frozen = true → exec .followExpired s = .next s.granted)) ∧
  (∀ (s : State) (n : Nat), s.ce.follow = .counting (.remaining n) → exec .followExpired s = .next s.granted)

/-! ### Voices in time -/

/-- A host voice that is PRIMED and may start plays frame 0 in the present sample: it is PLAYING, its sample
joins the frame, and the START_VOICE record in flight finishes DONE. Before the first sample it may start at,
nothing happens (03, R60, R70). -/
def Obligations.HostVoiceStarts : Prop :=
  ∀ (s : State) (v : Nat) (r : Link) (clamped : Bool) (w : Word), 1 ≤ v → v ≤ 64 →
    s.ml.part = .running → s.notices = [] →
    (s.voice v).st = .primed → (s.voice v).owner = .host → (s.voice v).start = .whenPrimed →
    (s.voice v).pos.done = false → heldWord (s.voice v).blocks (s.voice v).pos.idx = some w →
    s.ml.inflight = [⟨r, 8, .startVoice v false, clamped⟩] → s.ml.reader ≠ .blocked →
    s.ml.allows (linkPlus r 9) 15 true = true → s.ml.allows (linkPlus r 8) 1 true = true →
    ((s.voice v).startFrom ≤ s.ck.now → s.interlocked = false →
      ∃ t : State, exec (.voiceStart v) s = .next t.granted ∧
        (t.voice v).st = .playing ∧ (t.voice v).start = .notYet ∧ (t.voice v).owner = .host ∧
        (t.voice v).pos = nextPos (s.voice v).desc (s.voice v).desc2 (s.voice v).pos ∧
        (t.voice v).env = 32768 ∧
        (∀ u, 1 ≤ u → u ≤ 64 → u ≠ v → t.voice u = s.voice u) ∧
        t.mx = { s.mx with
          frames := addToFrame s.mx.frames v (scale (frameValue w) 32768) (s.pageOfVoice v) } ∧
        t.vu.table = s.vu.table ∧ t.vu.index = s.vu.index ∧ t.vu.reserve = s.vu.reserve ∧
        t.ml = { s.ml with
          inflight := [],
          writes := s.ml.writes ++ finishWrites (s.ml.address r) s.ck.now .ok .none clamped } ∧
        t.notices = [] ∧ t.lv = s.lv ∧ t.ce = s.ce ∧ t.fb = s.fb ∧ t.rc = s.rc ∧ t.il = s.il ∧ t.cu = s.cu ∧
        t.ck = s.ck) ∧
    (s.ck.now < (s.voice v).startFrom → exec (.voiceStart v) s = .next s.granted)

/-- A voice whose path, cut ramp or paused down-ramp has run out is DRAINING, and FREE at once if no fetch is
outstanding, with VOICE_END carrying FINISHED for the path's end and STOPPED for the others (03, R62, R65,
R66, R67; 11, R197). That a path which ends during a cut ramp gives FINISHED, the code END, and not STOPPED is
the model's reading (log 42), and what a FREE voice holds where no rule names it its choice (log 5). -/
def Obligations.VoicesEndThroughDraining : Prop :=
  ∀ (s : State) (v : Nat), 1 ≤ v → v ≤ 64 → s.ml.part = .running → s.notices = [] → s.Reports 1 →
    s.Loose v →
    (((s.voice v).st = .playing ∨ (s.voice v).st = .tailing) → (s.voice v).pos.done = true →
      (s.voice v).fetch = none →
      exec (.pathEnd v) s = .next ((s.posted clsAudio repVoiceEnd (w32 v) (w32 0)
        (w32 (s.voice v).underruns)).setVoice v Voice.reset).granted) ∧
    (((s.voice v).st = .playing ∨ (s.voice v).st = .tailing) → (s.voice v).stop = .cut →
      (s.voice v).ramp = none → (s.voice v).fetch = none →
      exec (.cutRampEnd v) s = .next ((s.posted clsAudio repVoiceEnd (w32 v) (w32 1)
        (w32 (s.voice v).underruns)).setVoice v Voice.reset).granted) ∧
    ((s.voice v).st = .paused → (s.voice v).stop = .cut → (s.voice v).ramp = none →
      (s.voice v).fetch = none →
      exec (.pauseRampEnd v) s = .next ((s.posted clsAudio repVoiceEnd (w32 v) (w32 1)
        (w32 (s.voice v).underruns)).setVoice v Voice.reset).granted) ∧
    (∀ f, ((s.voice v).st = .playing ∨ (s.voice v).st = .tailing) → (s.voice v).pos.done = true →
      (s.voice v).fetch = some f →
      exec (.pathEnd v) s = .next (s.setVoice v { s.voice v with
        st := .draining, start := .notYet, blocks := [], ramp := none, late := false,
        endCause := .finished }).granted)

/-- A tail that has counted down begins the cut ramp; the flash window closes after its last sample; the
named boundary brings the selected reference into use (03, R63; 08, R168; 09, R175). -/
def Obligations.TailsFlashesAndBoundaries : Prop :=
  ∀ s : State, s.ml.part = .running →
    (∀ v, (s.voice v).st = .tailing → (s.voice v).stop ≠ .cut → (s.voice v).tail = 0 →
      exec (.tailEnd v) s = .next (s.setVoice v { s.voice v with
        ramp := some ⟨(s.voice v).env, 0, 0⟩, stop := .cut }).granted) ∧
    (∀ e, s.cu.flash = some e →
      exec .flashWindowEnd s =
        .next (if e < s.ck.now then { s with cu := { s.cu with flash := none } } else s).granted) ∧
    (∀ b, s.ck.silentNext = some b →
      exec .changeoverBoundary s = .next (if b ≤ s.ck.now then
        { s with ck := { s.ck with external := s.ck.selected, silentNow := some b, silentNext := none } }
        else s).granted)

/-! ### Pages in time -/

/-- A page still WAITING at its wait expiry leaves the table EXPIRED; the only page, a LIVE one on air, ends
TIMEOUT at its length limit, its zones and its microphone free. The DUCK of each zone it held stays where it is
at 0 with no duck fade, else returns to 0: at once where the zone's release is 0, else by a release fade of the
relay. Before its sample neither happens (01, R3, R16; 06, R137, R138, R139, R143). -/
def Obligations.PagesExpire : Prop :=
  (∀ (s : State) (p : Page) (e : Nat), s.ml.part = .running → s.notices = [] → s.Reports 1 →
      s.page p.id = some p → p.st = .waiting → p.waitExpiry = some e →
      (e ≤ s.ck.now → exec (.waitExpiry p.id) s = .next (({ s with rc := { s.rc with
          pages := s.rc.pages.filter fun q => !(q.id == p.id) } } : State).posted clsPage repPageEnded
          (w32 p.id) (w32 (pageCauseCode .expired)) (w32 0)).granted) ∧
      (s.ck.now < e → exec (.waitExpiry p.id) s = .next s.granted)) ∧
  (∀ (s : State) (p : Page) (e : Nat), s.ml.part = .running → s.notices = [] → s.Reports 1 →
      s.rc.pages = [p] → p.st = .onAir → p.live = true → p.voice = none → p.lengthExpiry = some e →
      s.lv.fades.length + 32 ≤ 1024 → (∀ f ∈ s.lv.fades, ∀ z, f.target = .duck z → f.owner = .relay z) →
      (∀ z, 1 ≤ z → z ≤ 32 → (s.zone z).holder = none ∨ (s.zone z).holder = some p.id) →
      (e ≤ s.ck.now →
        ∃ t : State, exec (.lengthExpiry p.id) s = .next t.granted ∧ t.rc.pages = [] ∧
          (∀ z, 1 ≤ z → z ≤ 32 → (t.zone z).holder = none) ∧ t.micFree p.mic = true ∧ t.rc.onAir = 0 ∧
          (∀ z, 1 ≤ z → z ≤ 32 → (s.zone z).holder = none →
            t.zone z = s.zone z ∧ t.levelOf (.duck z) = s.levelOf (.duck z) ∧
            t.fadeOn (.duck z) = s.fadeOn (.duck z)) ∧
          (∀ z, 1 ≤ z → z ≤ 32 → (s.zone z).holder = some p.id →
            (s.levelOf (.duck z) = 0 → (s.zone z).duckFade = .none →
              (t.zone z).duckFade = .none ∧ t.levelOf (.duck z) = 0 ∧
              t.fadeOn (.duck z) = s.fadeOn (.duck z)) ∧
            ((s.levelOf (.duck z) ≠ 0 ∨ (s.zone z).duckFade ≠ .none) → (s.zone z).release = 0 →
              (t.zone z).duckFade = .none ∧ t.levelOf (.duck z) = 0 ∧ t.fadeOn (.duck z) = none) ∧
            ((s.levelOf (.duck z) ≠ 0 ∨ (s.zone z).duckFade ≠ .none) → 0 < (s.zone z).release →
              (t.zone z).duckFade = .release ∧ t.levelOf (.duck z) = s.levelOf (.duck z) ∧
              t.fadeOn (.duck z) = some ⟨.duck z, .relay z, s.levelOf (.duck z), 0,
                ((s.zone z).release * s.ck.rate + 63999) / 64000, 0, .linear, false, false⟩)) ∧
          t.ml = (s.posted clsPage repPageEnded (w32 p.id) (w32 (pageCauseCode .timeout)) (w32 0)).ml ∧
          t.ck = s.ck ∧ t.ce = s.ce ∧ t.fb = s.fb ∧ t.il = s.il ∧ t.cu = s.cu ∧ t.mx = s.mx ∧ t.vu = s.vu ∧
          t.notices = []) ∧
      (s.ck.now < e → exec (.lengthExpiry p.id) s = .next s.granted))

/-! ### Contacts in time -/

/-- A debounced change flips the input's state and sets its edge flag where the edge is enabled; the functions
routed there follow the contact and are delivered. With none nothing else changes; GO and TRIG trigger the armed
cue, GO is latched in ARMING; MARK posts the closed set; TALK is handed to the foldback controller; HOLD begins
and ends the freeze; INTERLOCK enters ACTIVE from CLEAR with a fade to OFF on each of its 56 offsets, LATCHED with
its report, and ACTIVE again; PAGE_n puts its button's page on air, does nothing where the button is UNSET, and
ends it on release. The pattern watcher fires on a watched change, or where the pattern becomes equal. An input
whose count has not run its time does not change (08, R159, R160, R161, R162, R165; 04, R87, R88, R95; 06, R145; 07,
R152, R153, R154; 05, R110). -/
def Obligations.InputChangeFlips : Prop :=
  ∀ (s : State) (c watcherAt : Nat) (first : List Nat), 1 ≤ c → c ≤ 24 →
    s.ml.part = .running → s.notices = [] →
    let x := s.input c
    let flipped := s.setInput c { x with
      closed := !x.closed, count := 0, due := false, edge := x.edge || (if x.closed then x.fall else x.rise) }
    let on := fun (fn : Func) (b : Bool) =>
      ({ flipped with cu := { flipped.cu with routes := [⟨fn, c, .closed, b⟩] } } : State)
    let change := exec (.inputChange c watcherAt first) s
    let closes := fun (fn : Func) => x.closed = false ∧ s.cu.routes = [⟨fn, c, .closed, false⟩]
    let opens := fun (fn : Func) => x.closed = true ∧ s.cu.routes = [⟨fn, c, .closed, true⟩]
    (x.due = false → change = .next s.granted) ∧
    (x.due = true → s.cu.mode = .off → (∀ r ∈ s.cu.routes, r.input ≠ c) → change = .next flipped.granted) ∧
    (x.due = true → s.cu.mode = .off →
      (∀ k, closes .go → s.LastCue k → s.Reports 2 → change = .next ((on .go true).playedLast k).granted) ∧
      (closes .go → s.frozen = false → s.ce.seq = .arming → s.ce.latched = none →
        change = .next ({ on .go true with ce := { s.ce with latched := some .contact } } : State).granted) ∧
      (∀ k n, 1 ≤ n → n ≤ 8 → closes (.trig n) → s.LastCue k → s.Reports 2 →
        change = .next (if k.trigger = .input n then (on (.trig n) true).playedLast k else on (.trig n) true).granted) ∧
      (∀ fn code, funcOf code = some fn → isEdge fn = true → opens fn → change = .next (on fn false).granted) ∧
      (closes .mark → s.Reports 1 →
        change = .next ((on .mark true).posted clsSystem repMark 0 (w32 c) (flipped.closedSet.setWidth 32)).granted) ∧
      ((∀ m, 1 ≤ m → m ≤ 16 → (s.mix m).inSet = false ∧ (s.mix m).talking = false) →
        (closes .talk → change = .next ({ on .talk true with fb := { s.fb with talkFn := true } } : State).granted) ∧
        (opens .talk → change = .next ({ on .talk false with fb := { s.fb with talkFn := false } } : State).granted)) ∧
      (closes .hold → s.frozen = false → s.ce.latched = none →
        ∃ t : State, change = .next t.granted ∧ t.ce.hold = true ∧ t.frozen = true ∧ t.cu = (on .hold true).cu ∧
          t.ce.seq = s.ce.seq ∧ t.ml = s.ml ∧ t.ck = s.ck ∧ t.rc = s.rc ∧ t.il = s.il) ∧
      (opens .hold → s.ce.hold = true → s.interlocked = false → s.ce.follow ≠ .expired → s.ce.fire ≠ .waiting →
        ∃ t : State, change = .next t.granted ∧ t.ce.hold = false ∧ t.frozen = false ∧
          t.cu = (on .hold false).cu ∧ t.ce.seq = s.ce.seq ∧ t.ml = s.ml ∧ t.ck = s.ck ∧ t.rc = s.rc ∧ t.il = s.il) ∧
      (closes .interlock → s.il.st = .clear → s.lv.fades.length + 56 ≤ 1024 → s.ce.latched = none →
        (∀ f ∈ s.lv.fades, f.target ∉ interlockTargets) → (∀ p ∈ s.rc.pages, 3 ≤ p.priority) → s.Reports 1 →
        ∃ t : State, change = .next t.granted ∧ t.il = { s.il with
            st := .active, resumeSet := [], activation := s.ck.now } ∧
          t.frozen = true ∧ t.interlocked = true ∧
          (∀ y ∈ interlockTargets, t.levelOf y = s.levelOf y ∧ t.fadeOn y = some ⟨y, .interlock, s.levelOf y, off,
            (250 * s.ck.rate + 63999) / 64000, 0, .linear, false, false⟩) ∧
          t.ml = ((s.posted clsSystem repInterlockOn (w32 c) (w32 0) (w32 0)).setCause 8).ml ∧
          t.cu = (on .interlock true).cu ∧ t.rc = s.rc ∧ t.fb = s.fb ∧ t.mx = s.mx ∧ t.ck = s.ck) ∧
      (opens .interlock → s.il.st = .active → s.Reports 1 →
        change = .next (({ on .interlock false with il := { s.il with st := .latched } } : State).posted clsSystem
          repInterlockLatched (w32 c) (w32 (s.ck.now - s.il.activation)) (w32 0)).granted) ∧
      (closes .interlock → s.il.st = .latched → s.Reports 1 →
        change = .next ((({ on .interlock true with il := { s.il with
          st := .active, activation := s.ck.now } } : State).posted clsSystem repInterlockOn (w32 c) (w32 2)
            (w32 0)).setCause 8).granted) ∧
      (∀ n, 1 ≤ n → n ≤ 8 → closes (.page n) → tget s.rc.buttons (n - 1) none = none →
        change = .next (on (.page n) true).granted) ∧
      (∀ n z b, 1 ≤ n → n ≤ 8 → closes (.page n) → tget s.rc.buttons (n - 1) none = some b → 1 ≤ z → z ≤ 32 →
        b.zones = BitVec.twoPow 32 (z - 1) → b.groups = 0 → b.mic = 1 → b.partialMode = false →
        s.rc.pages = [] → s.interlocked = false → (∀ y, 1 ≤ y → y ≤ 32 → (s.zone y).holder = none) →
        (s.zone z).programme = false → (s.zone z).duckFade ≠ .attack → s.micFree 1 = true → s.Reports 2 →
        ∃ (t : State) (q : Page), change = .next t.granted ∧ t.rc.pages = [q] ∧ q.id = 0xFF00 + n ∧
          q.priority = b.priority ∧ q.st = .onAir ∧ q.gate = true ∧ q.live = true ∧ q.waitLimit = none ∧
          q.lengthExpiry = some (s.ck.now + 600 * s.ck.rate) ∧ (t.zone z).holder = some (0xFF00 + n) ∧
          t.micFree 1 = false ∧ t.cu = (on (.page n) true).cu ∧
          t.ml = ((s.posted clsPage repPageGranted (w32 (0xFF00 + n)) b.zones (w32 0)).posted clsPage
            repPageOnAir (w32 (0xFF00 + n)) b.zones (w32 b.priority)).ml ∧
          t.lv = s.lv ∧ t.mx = s.mx ∧ t.vu = s.vu ∧ t.ce = s.ce ∧ t.il = s.il ∧ t.ck = s.ck) ∧
      (∀ n p, 1 ≤ n → n ≤ 8 → opens (.page n) → s.page (0xFF00 + n) = some p → p.st = .waiting → s.Reports 1 →
        change = .next (({ on (.page n) false with rc := { s.rc with
          pages := s.rc.pages.filter fun q => !(q.id == 0xFF00 + n) } } : State).posted clsPage repPageEnded
            (w32 (0xFF00 + n)) (w32 (pageCauseCode .released)) (w32 0)).granted)) ∧
    (x.due = true → (∀ r ∈ s.cu.routes, r.input ≠ c) → c ≤ 16 →
      let pattern : Word := flipped.pattern.setWidth 32
      (s.cu.mode = .event → inSet s.cu.mask c = false → change = .next flipped.granted) ∧
      (s.cu.mode = .event → inSet s.cu.mask c = true → s.cu.action = .report → s.Reports 1 →
        change = .next (flipped.posted clsSystem repInputPattern (w32 0) pattern 0).granted) ∧
      (∀ k, s.cu.mode = .event → inSet s.cu.mask c = true → s.cu.action = .go → s.LastCue k → s.Reports 3 →
        change = .next ((flipped.posted clsSystem repInputPattern (w32 0) pattern 1).playedLast k).granted) ∧
      (s.cu.mode = .matching → (s.cu.equal = true ∨ flipped.pattern &&& s.cu.mask ≠ s.cu.compare &&& s.cu.mask) →
        change = .next ({ flipped with cu := { flipped.cu with
          equal := decide (flipped.pattern &&& s.cu.mask = s.cu.compare &&& s.cu.mask) } } : State).granted) ∧
      (s.cu.mode = .matching → s.cu.equal = false →
        flipped.pattern &&& s.cu.mask = s.cu.compare &&& s.cu.mask → s.cu.action = .report → s.Reports 1 →
        change = .next (({ flipped with cu := { flipped.cu with equal := true } } : State).posted clsSystem
          repInputPattern (w32 1) pattern 0).granted))

/-! ### The clock in time -/

/-- The end of a measurement window keeps the deviation and judges it against W, C and H: good, EXT_WARN with
CLOCK_WARN, back to EXT_GOOD below W − H, or INT_FALLBACK with a changeover and the CLOCK cause. While acquiring,
the window under way at the start is passed over, a window below W − H counts, another starts the count again, and
the second in a row relocks: EXT_GOOD, a changeover, CLOCK_RELOCKED, and the RELOCK record in flight is DONE. A
loss event falls back in the same way; one already raised is not raised again. A rising edge counts and ends the
gap; where a window has run its periods its end comes first, and where the gap has already reached 10 ms its loss
event. Before a window has run its periods, or a gap 10 ms, the row does nothing (09, R172, R174, R175, R176; 10,
R180; that windows and gaps are counted on the sample grid of the clock unit is the model's choice, log 9). -/
def Obligations.ClockJudgesItsReference : Prop :=
  (∀ (s : State) (d : Int), s.ml.part = .running → s.notices = [] → s.ck.rate ≤ s.ck.windowPos →
      d = (((s.ck.edges : Int) - (s.ck.rate : Int)) * 1000000).tdiv (s.ck.rate : Int) →
      let u : State := { s with ck := { s.ck with
        deviation := d, edges := 0, windowPos := s.ck.windowPos - s.ck.rate } }
      (s.ck.st = .intFallback ∨ s.ck.st = .intSelected ∨ s.ck.st = .extGood ∧ d.natAbs < s.ck.warn ∨
          s.ck.st = .extWarn ∧ s.ck.warn - s.ck.hyst ≤ d.natAbs ∧ d.natAbs < s.ck.change →
        exec .measurementWindowEnd s = .next u.granted ∧
        (s.ck.gap < s.ck.rate / 100 ∨ s.ck.lossRaised = true ∨ s.ck.st = .intFallback ∨ s.ck.st = .intSelected →
          exec .wordClockEdge s = .next ({ u with ck := { u.ck with
            edges := min 1 (2 * s.ck.rate), gap := 0, lossRaised := false } } : State).granted)) ∧
      (s.ck.st = .extGood → s.ck.warn ≤ d.natAbs → d.natAbs < s.ck.change → s.Reports 1 →
        exec .measurementWindowEnd s = .next (({ u with ck := { u.ck with st := .extWarn } } : State).posted
          clsSystem repClockWarn 0 (w32i d) (w32 s.ck.warn)).granted) ∧
      (s.ck.st = .extWarn → d.natAbs < s.ck.warn - s.ck.hyst →
        exec .measurementWindowEnd s = .next ({ u with ck := { u.ck with st := .extGood } } : State).granted) ∧
      ((s.ck.st = .extGood ∧ s.ck.warn ≤ d.natAbs ∨
          s.ck.st = .extWarn ∧ s.ck.warn - s.ck.hyst ≤ d.natAbs) → s.ck.change ≤ d.natAbs → s.Reports 1 →
        s.ck.selected = true → s.ck.silentNext = none →
        exec .measurementWindowEnd s = .next ((({ u with ck := { u.ck with
          st := .intFallback, selected := false, changeovers := (s.ck.changeovers + 1) % 2 ^ 32,
          silentNext := some ((s.ck.now / 64 + 1) * 64) } } : State).posted clsSystem repClockChangeover
            (w32 0) (w32i d) (w32 ((s.ck.changeovers + 1) % 2 ^ 32))).setCause 7).granted) ∧
      (s.ck.st = .extAcquiring →
        (s.ck.acqFresh = true →
          exec .measurementWindowEnd s = .next ({ u with ck := { u.ck with acqFresh := false } } : State).granted) ∧
        (s.ck.acqFresh = false → s.ck.warn - s.ck.hyst ≤ d.natAbs →
          exec .measurementWindowEnd s = .next ({ u with ck := { u.ck with good := 0 } } : State).granted) ∧
        (s.ck.acqFresh = false → d.natAbs < s.ck.warn - s.ck.hyst → s.ck.good = 0 →
          exec .measurementWindowEnd s = .next ({ u with ck := { u.ck with good := 1 } } : State).granted) ∧
        (∀ r clamped, s.ck.acqFresh = false → d.natAbs < s.ck.warn - s.ck.hyst → s.ck.good = 1 → s.Reports 1 →
          s.ck.selected = false → s.ck.silentNext = none → s.ml.inflight = [⟨r, 35, .relock, clamped⟩] →
          s.ml.reader ≠ .blocked → s.ml.allows (linkPlus r 9) 15 true = true →
          s.ml.allows (linkPlus r 8) 1 true = true →
          exec .measurementWindowEnd s = .next ((({ u with
            ck := { u.ck with
              st := .extGood, good := 2, selected := true, changeovers := (s.ck.changeovers + 1) % 2 ^ 32,
              silentNext := some ((s.ck.now / 64 + 1) * 64) }
            ml := { u.ml with inflight := [] } } : State).posted clsSystem repClockRelocked 0 (w32i d)
              (w32 ((s.ck.changeovers + 1) % 2 ^ 32))).outcome r .ok .none clamped).granted))) ∧
  (∀ s : State, s.ml.part = .running → s.notices = [] →
      (s.ck.windowPos < s.ck.rate → exec .measurementWindowEnd s = .next s.granted) ∧
      (s.ck.rate / 100 ≤ s.ck.gap → s.ck.lossRaised = false → s.ck.st = .extGood ∨ s.ck.st = .extWarn →
        s.Reports 1 → s.ck.selected = true → s.ck.silentNext = none →
        exec .lossEvent s = .next ((({ s with ck := { s.ck with
          lossRaised := true, st := .intFallback, selected := false,
          changeovers := (s.ck.changeovers + 1) % 2 ^ 32,
          silentNext := some ((s.ck.now / 64 + 1) * 64) } } : State).posted clsSystem repClockChangeover
            (w32 1) (w32i 0) (w32 ((s.ck.changeovers + 1) % 2 ^ 32))).setCause 7).granted) ∧
      (s.ck.rate / 100 ≤ s.ck.gap → s.ck.lossRaised = false →
        s.ck.st = .intFallback ∨ s.ck.st = .intSelected ∨ s.ck.st = .extAcquiring →
        exec .lossEvent s = .next ({ s with ck := { s.ck with lossRaised := true } } : State).granted) ∧
      (s.ck.gap < s.ck.rate / 100 ∨ s.ck.lossRaised = true → exec .lossEvent s = .next s.granted) ∧
      (s.ck.windowPos < s.ck.rate →
        s.ck.gap < s.ck.rate / 100 ∨ s.ck.lossRaised = true ∨ s.ck.st = .intFallback ∨ s.ck.st = .intSelected ∨
          s.ck.st = .extAcquiring →
        exec .wordClockEdge s = .next ({ s with ck := { s.ck with
          edges := min (s.ck.edges + 1) (2 * s.ck.rate), gap := 0, lossRaised := false } } : State).granted) ∧
      (s.ck.windowPos < s.ck.rate →
        s.ck.rate / 100 ≤ s.ck.gap → s.ck.lossRaised = false → s.ck.st = .extGood ∨ s.ck.st = .extWarn →
        s.Reports 1 → s.ck.selected = true → s.ck.silentNext = none →
        exec .wordClockEdge s = .next ((({ s with ck := { s.ck with
          edges := min (s.ck.edges + 1) (2 * s.ck.rate), gap := 0, lossRaised := false,
          st := .intFallback, selected := false, changeovers := (s.ck.changeovers + 1) % 2 ^ 32,
          silentNext := some ((s.ck.now / 64 + 1) * 64) } } : State).posted clsSystem repClockChangeover
            (w32 1) (w32i 0) (w32 ((s.ck.changeovers + 1) % 2 ^ 32))).setCause 7).granted))

/-- A status page that is due is checked once and written in three writes, its update count odd then even,
and the peaks start again; one whose span may not be written is a window fault of block STATUS (02, R41; 10,
R185; 11, R199; the bytes of no fault and of a zone without a holder are the model's choice, log 51). -/
def Obligations.StatusPageIsWritten : Prop :=
  ∀ (s : State) (c : Setup), s.ml.part = .running → s.ml.setup = some c → s.ml.nextStatus ≤ s.ck.now →
    (s.ml.allows c.status 4096 true = true →
      exec .statusPageWrite s = .next ({ s with
        ml := { s.ml with
          statusCount := (s.ml.statusCount + 2) % 2 ^ 32,
          nextStatus := s.ml.nextStatus + c.meter * s.ck.rate / 1000,
          writes := s.ml.writes ++
            [⟨[(s.ml.address c.status, toLe 4 (s.ml.statusCount + 1))]⟩,
             ⟨s.statusBody.map fun x => (s.ml.address c.status + x.1, x.2)⟩,
             ⟨[(s.ml.address c.status, toLe 4 (s.ml.statusCount + 2))]⟩] }
        mx := { s.mx with buses := s.mx.buses.map fun u => { u with peak := 0 } } } : State).granted) ∧
    (s.ml.allows c.status 4096 true = false → s.Reports 1 →
      ∃ t : State, exec .statusPageWrite s = .next t.granted ∧
        t.ml = { (s.faulted c.status .status).ml with
          nextStatus := s.ml.nextStatus + c.meter * s.ck.rate / 1000 } ∧
        (∀ b, b < 25 → t.bus b = { s.bus b with peak := 0 }) ∧ t.lv = s.lv ∧ t.vu = s.vu ∧ t.ce = s.ce ∧
        t.fb = s.fb ∧ t.rc = s.rc ∧ t.il = s.il ∧ t.cu = s.cu ∧ t.ck = s.ck)

/-! ### Reads that return -/

/-- The link read of a look: END sends the reader to WAITING, another link is judged next, and a bus error is
a window fault of block CHAIN at the reader's position. A record found not POSTED is a chain fault, and the
reader's position stays (10, R180, R185; 11, R191). -/
def Obligations.ChainReadsAreJudged : Prop :=
  (∀ (s : State) (before after : List Outstanding) (addr : Nat) (link : Link), s.ml.part = .running →
      s.ml.slots = before ++ ⟨.chainLink, addr, 8, link⟩ :: after → (∀ o ∈ before, o.use ≠ .chainLink) →
      s.ml.reader = .looking → s.ml.lookOwed = false →
      (∀ b, isEnd (linkAt b 0) = true →
        exec (.chainLinkReadComplete (.data b)) s = .next ({ s with ml := { s.ml with
          slots := before ++ after, reader := .waiting } } : State).granted) ∧
      (∀ b, isEnd (linkAt b 0) = false →
        exec (.chainLinkReadComplete (.data b)) s = .next ({ s with ml := { s.ml with
          slots := before ++ after, reader := .reading (linkAt b 0) } } : State).granted) ∧
      (∀ l, s.Reports 1 → s.ml.position = some l →
        exec (.chainLinkReadComplete .busError) s = .next (({ s with ml := { s.ml with
          slots := before ++ after, reader := .waiting } } : State).faulted l .chain).granted)) ∧
  (∀ (s : State) (l link : Link) (addr : Nat) (b : List Byte), s.ml.part = .running → s.ml.inflight.length < 8 →
      s.ml.slots = [⟨.chainRecord l, addr, 128, link⟩] → s.ml.reader = .reading l → s.ml.lookOwed = false →
      fieldAt b 8 1 ≠ 1 →
      exec (.chainRecordReadComplete (.data b)) s = .next ({ s with ml := { s.ml with
        slots := [], reader := .waiting, cause := s.ml.cause ||| 0x20#32 } } : State).granted)

/-- The chain reader takes a POSTED record by writing its state TAKEN, moves its position there with a look
owed, and hands the record's command on: what follows is what the command does. Written out for a SET_SOURCE
record, and for one of an unknown kind, which finishes FAILED_UNKNOWN (02, R44; 11, R191, R192, R195; the
places of the argument fields are the model's, log 15). -/
def Obligations.TakenRecordRunsItsCommand : Prop :=
  ∀ (s : State) (l link : Link) (addr : Nat) (b : List Byte), s.ml.part = .running → s.ml.inflight.length < 8 →
    s.ml.slots = [⟨.chainRecord l, addr, 128, link⟩] → s.ml.reader = .reading l → fieldAt b 8 1 = 1 →
    s.ml.allows (linkPlus l 8) 1 true = true →
    (∀ i, decodeRecord l b = some i →
      exec (.chainRecordReadComplete (.data b)) s = exec i { s with ml := { s.ml with
        slots := [], position := some l, lookOwed := true, reader := .waiting,
        writes := s.ml.writes ++ [⟨[(s.ml.address l + 8, [2])]⟩] } }) ∧
    (decodeRecord l b = none → s.notices = [] → s.ml.allows (linkPlus l 9) 15 true = true →
      exec (.chainRecordReadComplete (.data b)) s = .next ({ s with ml := { s.ml with
        slots := [], position := some l, lookOwed := false, reader := .looking,
        writes := s.ml.writes ++ [⟨[(s.ml.address l + 8, [2])]⟩] ++
          finishWrites (s.ml.address l) s.ck.now .unknown .none false } } : State).granted) ∧
    (fieldAt b 12 2 = 4 → fieldAt b 32 1 ≤ 122 → fieldAt b 33 1 ≤ 1 → s.notices = [] →
      s.ml.allows (linkPlus l 9) 15 true = true →
      exec (.chainRecordReadComplete (.data b)) s = .next ({ s with
        ml := { s.ml with
          slots := [], position := some l, lookOwed := false, reader := .looking,
          writes := s.ml.writes ++ [⟨[(s.ml.address l + 8, [2])]⟩] ++
            finishWrites (s.ml.address l) s.ck.now .ok .none false }
        mx := { s.mx with
          mute := s.mx.mute.setIfInBounds (fieldAt b 32 1) (decide (fieldAt b 33 1 = 0)) } } : State).granted)

/-- The head slot's link returns while one report waits: END loses it, counted in its class with LOST set; a
link lets it be written into the head slot with link END, its chain link after it, and the heads move on (10,
R180; 11, R196, R197, R198; that the offset bytes of a link END written are 0 is the model's choice, log 14). -/
def Obligations.HeadLinkServesReports : Prop :=
  ∀ (s : State) (addr : Nat) (link : Link) (b : List Byte) (r : Report), s.ml.part = .running →
    s.ml.slots = [⟨.reportHead, addr, 8, link⟩] → s.ml.queue = [r] → r.cls < 4 →
    (isEnd (linkAt b 0) = true → tget s.ml.lost r.cls 0 < 2 ^ 32 - 1 →
      exec (.reportLinkReadComplete (.data b)) s = .next ({ s with ml := { s.ml with
        slots := [], queue := [], nextLink := .endOfList, cause := s.ml.cause ||| 0x10#32,
        lost := tset s.ml.lost r.cls (tget s.ml.lost r.cls 0 + 1) } } : State).granted) ∧
    (∀ h a c, isEnd (linkAt b 0) = false → s.ml.freeHead = some h → s.ml.anchor = some a →
      s.ml.setup = some c →
      s.ml.allows h 32 true = true → s.ml.allows a 8 true = true →
      exec (.reportLinkReadComplete (.data b)) s = .next ({ s with ml := { s.ml with
        slots := [], queue := [], nextLink := .unknown, anchor := some h, freeHead := some (linkAt b 0),
        headWanted := true,
        cause := if c.enables.getLsbD r.cls then s.ml.cause ||| BitVec.twoPow 32 r.cls else s.ml.cause,
        writes := s.ml.writes ++
          [⟨[(s.ml.address h, [255, 0, 0, 0, 0, 0, 0, 0] ++ toLe 1 r.cls ++ toLe 1 r.kind),
             (s.ml.address h + 12, toLe 4 r.subject.toNat ++ toLe 8 r.stamp ++ toLe 4 r.d1.toNat ++
               toLe 4 r.d2.toNat)]⟩,
           ⟨[(s.ml.address a, toLe 1 h.win ++ toLe 7 h.off)]⟩] } } : State).granted)

/-- A window of a table is valid by its place, its valid byte, its alignment and its end, and an access
passes when it lies in a valid window with the right it needs. The table read of LOAD_WINDOWS replaces the
whole cache and the record finishes under the new set; a bus error keeps the cache, records window 255 and
fails the record (10, R184, R185, R186). -/
def Obligations.WindowsAreJudgedAndReplaced : Prop :=
  (∀ (s : State) (r link : Link) (addr n : Nat) (clamped : Bool), s.ml.part = .running →
      s.ml.slots = [⟨.loadWindows r n, addr, 16 * n, link⟩] → s.ml.inflight = [⟨r, 36, .loadWindows, clamped⟩] →
      s.ml.reader ≠ .blocked →
      (∀ b, let m : Ml := { s.ml with
          slots := [], inflight := [], windows := Vector.ofFn fun w => windowAt b n w.val }
        m.allows (linkPlus r 9) 15 true = true → m.allows (linkPlus r 8) 1 true = true →
        exec (.loadWindowsReadComplete (.data b)) s = .next ({ s with ml := { m with
          writes := m.writes ++ finishWrites (m.address r) s.ck.now .ok .none clamped } } : State).granted) ∧
      (s.Reports 1 → s.ml.allows (linkPlus r 9) 15 true = true → s.ml.allows (linkPlus r 8) 1 true = true →
        exec (.loadWindowsReadComplete .busError) s = .next ((({ s with ml := { s.ml with
          slots := [], inflight := [] } } : State).faulted ⟨255, 0⟩ .windows).outcome r .window .none
            clamped).granted)) ∧
  ((∀ (b : List Byte) (n w : Nat), ((windowAt b n w).valid = true ↔
        w < n ∧ fieldAt b (16 * w + 13) 1 = 1 ∧ fieldAt b (16 * w) 8 % 64 = 0 ∧
          fieldAt b (16 * w) 8 + fieldAt b (16 * w + 8) 4 < 2 ^ 64)) ∧
    (∀ (m : Ml) (l : Link) (len : Nat) (write : Bool), 1 ≤ len →
      (m.allows l len write = true ↔
        l.win < 16 ∧ (m.window l.win).valid = true ∧ l.off + len ≤ (m.window l.win).limit + 1 ∧
          (if write then (m.window l.win).wr else (m.window l.win).rd) = true)))

/-- A fetched block joins the buffer of a PRIMING voice at the path index it was read for, and the voice is
PRIMED once two blocks are held. Data that lies wholly behind the play position or is marked to be discarded
is not placed; a read that ends a DRAINING voice's wait frees it (03, R53, R56, R58, R64, R66; what a FREE voice
holds where no rule names it is the model's choice, log 5). -/
def Obligations.FetchedBlockIsPlaced : Prop :=
  ∀ (s : State) (v addr : Nat) (link : Link) (f : Fetch) (b : List Byte), 1 ≤ v → v ≤ 64 →
    s.ml.part = .running → s.notices = [] → s.ml.slots = [⟨.fetch v, addr, 4 * f.len, link⟩] →
    (s.voice v).fetch = some f →
    ((s.voice v).st = .priming → (s.voice v).owner = .host → (s.voice v).start = .whenPrimed →
      (s.voice v).fpos.done = false → f.discard = false → (s.voice v).pos.idx < f.idx + f.len →
      ∃ t : State, exec (.fetchComplete v (.data b)) s = .next t.granted ∧
        t.ml = { s.ml with slots := [] } ∧
        (t.voice v).blocks = (s.voice v).blocks ++ [⟨f.idx, wordsOf f.len b⟩] ∧
        (t.voice v).fetch = none ∧
        (t.voice v).st = (if 1 ≤ (s.voice v).blocks.length then .primed else .priming) ∧
        (∀ u, 1 ≤ u → u ≤ 64 → u ≠ v → t.voice u = s.voice u) ∧
        t = { s with ml := t.ml, vu := { s.vu with voices := t.vu.voices } }) ∧
    ((s.voice v).st = .playing → (f.discard = true ∨ f.idx + f.len ≤ (s.voice v).pos.idx) →
      exec (.fetchComplete v (.data b)) s = .next (({ s with ml := { s.ml with slots := [] } } : State).setVoice v
        { s.voice v with fetch := none }).granted) ∧
    ((s.voice v).st = .draining → s.Loose v → s.Reports 1 →
      exec (.fetchComplete v (.data b)) s = .next ((({ s with ml := { s.ml with slots := [] } } : State).posted
        clsAudio repVoiceEnd (w32 v) (w32 (endCauseCode (s.voice v).endCause))
        (w32 (s.voice v).underruns)).setVoice v Voice.reset).granted)

/-- The reads of a sequence arming: a book entry of END is BOOK_FAULT ABSENT, which ends the arming FAULTED
and its record FAILED_STATE; another entry leads to the header, and a header with more than 32 actions is
BOOK_FAULT COUNT, also where its trigger or its next index is bad, and without CLAMPED for its wait (the model's
order of header faults and clamps, log 36).
The read of an abandoned arming brings nothing (04, R76, R77, R79, R80, R83, R98). -/
def Obligations.ArmingReadsAreJudged : Prop :=
  ∀ (s : State) (a : Arming) (addr len : Nat) (r link : Link) (kind : Nat) (b : List Byte),
    s.ml.part = .running → s.notices = [] →
    (s.ml.slots = [⟨.arming false true, addr, len, link⟩] → s.ce.seqArm = some a → s.ce.seq = .arming →
      s.ce.latched = none → a.cue = Cue.start a.cue.index →
      (a.step = .index → isEnd (linkAt b 0) = false →
        exec (.armingReadComplete false (.data b)) s = .next ({ s with
          ml := { s.ml with slots := [] }
          ce := { s.ce with seqArm := some { a with step := .header (linkAt b 0) } } } : State).granted) ∧
      ((a.step = .index ∧ isEnd (linkAt b 0) = true ∨ (∃ l, a.step = .header l) ∧ 32 < fieldAt b 12 1) →
        s.Reports 1 → s.ml.inflight = [⟨r, kind, .seqArm, false⟩] → s.ml.reader ≠ .blocked →
        s.ml.allows (linkPlus r 9) 15 true = true → s.ml.allows (linkPlus r 8) 1 true = true →
        exec (.armingReadComplete false (.data b)) s = .next ((({ s with
          ml := { s.ml with slots := [], inflight := [] }
          ce := { s.ce with seqArm := none, seq := .faulted, armed := none } } : State).posted clsCue repBookFault
            (w32 a.cue.index) (w32 (bookReasonCode (if a.step = .index then .absent else .count)))
            (w32 0)).outcome r .state).granted)) ∧
    (s.ml.slots = [⟨.arming false false, addr, len, link⟩] →
      exec (.armingReadComplete false (.data b)) s = .next ({ s with ml := { s.ml with slots := [] } } : State).granted)

/-- The reads of a recall: a header that names no mixes applies nothing and finishes the record DONE; one
that names more than 16 is refused with SCENE_SKIPPED RANGE; otherwise the first mix header is read next (05,
R114, R115, R116, R120). -/
def Obligations.SceneReadsAreJudged : Prop :=
  ∀ (s : State) (q : Recall) (addr : Nat) (r link : Link) (b : List Byte),
    s.ml.part = .running → s.notices = [] → s.ml.slots = [⟨.scene q.number, addr, 8, link⟩] →
    s.fb.recalls = [q] → q.step = .header → q.pos = 0 → q.mixes = [] →
    s.ml.inflight = [⟨r, 21, .scene q.number, q.clamped⟩] → s.ml.reader ≠ .blocked →
    s.ml.allows (linkPlus r 9) 15 true = true → s.ml.allows (linkPlus r 8) 1 true = true →
    (fieldAt b 4 1 = 0 →
      exec (.sceneReadComplete q.number (.data b)) s = .next (({ s with
        ml := { s.ml with slots := [], inflight := [] }
        fb := { s.fb with recalls := [] } } : State).outcome r .ok .none q.clamped).granted) ∧
    (16 < fieldAt b 4 1 → s.Reports 1 →
      exec (.sceneReadComplete q.number (.data b)) s = .next ((({ s with
        ml := { s.ml with slots := [], inflight := [] }
        fb := { s.fb with recalls := [] } } : State).posted clsAudio repSceneSkipped (w32 0)
          (w32 (fieldAt b 0 4)) (w32 (sceneReasonCode .range))).outcome r .range .none q.clamped).granted) ∧
    (0 < fieldAt b 4 1 → fieldAt b 4 1 ≤ 16 →
      exec (.sceneReadComplete q.number (.data b)) s = .next ({ s with
        ml := { s.ml with slots := [] }
        fb := { s.fb with recalls := [{ q with
          scene := fieldAt b 0 4, left := fieldAt b 4 1, pos := 8, step := .mixHeader }] } } : State).granted)

/-! ### Level and mix commands -/

/-- SET_LEVEL on a channel: an absolute level is read by R1, a relative one is added to the value in the
store and clamped, and a host fade that runs on the channel is taken over; nothing else changes. Ids, kinds
and modes out of range fail FAILED_RANGE (01, R1, R6, R7, R22, R23). -/
def Obligations.SetLevelSetsAChannel : Prop :=
  ∀ (s : State) (r : Link) (c id : Nat) (v : Int), s.Ready r → c ≤ 122 →
    (∀ f ∈ s.lv.fades, f.target = .channel c → f.owner = .host) →
    (-1024 ≤ v → v ≤ 128 →
      exec (.setLevel r ⟨0, c, id⟩ 0 v) s = .next (({ s with lv := { s.lv with
        channel := s.lv.channel.setIfInBounds c v,
        fades := s.lv.fades.filter fun f => !(f.target == .channel c) } } : State).outcome r .ok).granted) ∧
    (128 < v →
      exec (.setLevel r ⟨0, c, id⟩ 0 v) s = .next (({ s with lv := { s.lv with
        channel := s.lv.channel.setIfInBounds c 128,
        fades := s.lv.fades.filter fun f => !(f.target == .channel c) } } : State).outcome r .ok .none true).granted) ∧
    (-1024 ≤ s.levelOf (.channel c) + v → s.levelOf (.channel c) + v ≤ 128 →
      exec (.setLevel r ⟨0, c, id⟩ 1 v) s = .next (({ s with lv := { s.lv with
        channel := s.lv.channel.setIfInBounds c (s.levelOf (.channel c) + v),
        fades := s.lv.fades.filter fun f => !(f.target == .channel c) } } : State).outcome r .ok).granted) ∧
    (s.levelOf (.channel c) + v < -1024 →
      exec (.setLevel r ⟨0, c, id⟩ 1 v) s = .next (({ s with lv := { s.lv with
        channel := s.lv.channel.setIfInBounds c off,
        fades := s.lv.fades.filter fun f => !(f.target == .channel c) } } : State).outcome r .ok .none true).granted) ∧
    (∀ t mode, (1 < mode ∨ 3 < t.kind ∨ t.kind = 0 ∧ 122 < t.id1 ∨ t.kind = 2 ∧ 24 < t.id1) →
      exec (.setLevel r t mode v) s = .next (s.outcome r .range).granted)

/-- FADE of a bus master: a duration of 1 ms or more enters a fade from the value in the store, owned by the
host, and leaves the store as it is; 0 ms does what SET_LEVEL does; an unknown law fails FAILED_RANGE (01,
R3, R5, R16, R22, R24). -/
def Obligations.FadeEntersTheTable : Prop :=
  ∀ (s : State) (r : Link) (b id ms : Nat) (v : Int), s.Ready r → b ≤ 24 → -1024 ≤ v → v ≤ 128 →
    (s.fadeOn (.master b) = none → s.lv.fades.length < 1024 → 1 ≤ ms → ms ≤ 3600000 →
      exec (.fade r ⟨2, b, id⟩ 0 v ms 1) s = .next (({ s with lv := { s.lv with
        fades := s.lv.fades ++ [⟨.master b, .host, s.levelOf (.master b), v,
          (ms * s.ck.rate + 63999) / 64000, 0, .early, false, false⟩] } } : State).outcome r .ok).granted) ∧
    (∀ law, law ≤ 2 → exec (.fade r ⟨2, b, id⟩ 0 v 0 law) s = exec (.setLevel r ⟨2, b, id⟩ 0 v) s) ∧
    (∀ t mode law, 2 < law → exec (.fade r t mode v ms law) s = .next (s.outcome r .range).granted)

/-- STOP_FADE removes a host entry and leaves the level where it stands; without an entry nothing changes;
both are DONE. The offset targets are refused (01, R22, R25). -/
def Obligations.StopFadeLeavesTheLevel : Prop :=
  ∀ (s : State) (r : Link) (z id : Nat), s.Ready r → 1 ≤ z → z ≤ 32 →
    (s.fadeOn (.zoneLevel z) = none → exec (.stopFade r ⟨3, z, id⟩) s = .next (s.outcome r .ok).granted) ∧
    (∀ f, s.fadeOn (.zoneLevel z) = some f → f.owner = .host → f.remove = false →
      exec (.stopFade r ⟨3, z, id⟩) s = .next (({ s with lv := { s.lv with
        fades := s.lv.fades.filter fun g => !(g.target == .zoneLevel z) } } : State).outcome r .ok).granted) ∧
    (∀ k i j, 4 ≤ k → exec (.stopFade r ⟨k, i, j⟩) s = .next (s.outcome r .range).granted)

/-- SET_SOURCE writes one mute flag, 0 MUTE and 1 UNMUTE; SET_BUS writes one bus's mute flag and clip count,
each of which may be left, the mute flag by the leave mask or by its code. Numbers and values out of range fail
FAILED_RANGE (02, R44, R45; the codes and the two ways to leave the mute flag are the model's, log 15). -/
def Obligations.SetSourceAndSetBus : Prop :=
  ∀ (s : State) (r : Link), s.Ready r →
    (∀ c m, c ≤ 122 → m ≤ 1 →
      exec (.setSource r c m) s = .next (({ s with mx := { s.mx with
        mute := s.mx.mute.setIfInBounds c (decide (m = 0)) } } : State).outcome r .ok).granted) ∧
    (∀ c m, 122 < c ∨ 1 < m → exec (.setSource r c m) s = .next (s.outcome r .range).granted) ∧
    (∀ b m k, b ≤ 24 → (m = none ∨ m = some 0 ∨ m = some 1 ∨ m = some 2) → k ≤ 1 →
      exec (.setBus r b m k) s = .next ((s.setBus b { s.bus b with
        mute := if m = some 1 then true else if m = some 2 then false else (s.bus b).mute,
        clip := if k = 0 then 0 else (s.bus b).clip }).outcome r .ok).granted) ∧
    (∀ b m k, 24 < b ∨ (∃ x, m = some x ∧ 2 < x) ∨ 1 < k →
      exec (.setBus r b m k) s = .next (s.outcome r .range).granted)

/-- SET_CONTRIB with duration 0 inserts a source that the list does not hold, PRESENT at its level; a PRE tap
on a house bus is stored POST with CLAMPED; a full list fails FAILED_FULL; a source outside the bus's range
fails FAILED_RANGE. An insertion keeps the order of source ids (02, R31, R32, R33, R46). -/
def Obligations.SetContribInserts : Prop :=
  (∀ (s : State) (r : Link) (b c law : Nat) (v : Int), s.Ready r → law ≤ 2 → -1024 ≤ v → v ≤ 128 →
      s.contrib b c = none →
      (8 ≤ b → b ≤ 23 → c ≤ 121 → (s.bus b).list.length < 64 →
        exec (.setContrib r b c v 1 0 law) s = .next ((s.setBus b { s.bus b with
          list := insertContrib ⟨c, v, true, false, ⟨0, 0⟩⟩ (s.bus b).list }).outcome r .ok).granted) ∧
      (b ≤ 7 → c ≤ 122 → (s.bus b).list.length < 64 →
        exec (.setContrib r b c v 1 0 law) s = .next ((s.setBus b { s.bus b with
          list := insertContrib ⟨c, v, false, false, ⟨0, 0⟩⟩ (s.bus b).list }).outcome r .ok .none true).granted) ∧
      (b ≤ 23 → c ≤ 121 → 64 ≤ (s.bus b).list.length →
        exec (.setContrib r b c v 0 0 law) s = .next (s.outcome r .full).granted) ∧
      (24 < b ∨ 8 ≤ b ∧ b ≤ 23 ∧ 121 < c ∨ b ≤ 7 ∧ 122 < c ∨ 135 < c →
        exec (.setContrib r b c v 0 0 law) s = .next (s.outcome r .range).granted)) ∧
  (∀ (x : Contrib) (l : List Contrib), (l.map (·.source)).Pairwise (· < ·) → (∀ y ∈ l, y.source ≠ x.source) →
      ((insertContrib x l).map (·.source)).Pairwise (· < ·) ∧
      (insertContrib x l).Perm (x :: l))

/-- REMOVE_CONTRIB with duration 0 deletes the entry, whose sound goes on in a tail from its gain path; with
a duration it marks the entry LEAVING and fades it to OFF, to be removed at the end. A source not in the list
fails FAILED_STATE (01, R16, R19; 02, R34, R35, R47). -/
def Obligations.RemoveContribDeletesOrLeaves : Prop :=
  ∀ (s : State) (r : Link) (b c law : Nat) (x : Contrib), s.Ready r → law ≤ 2 → b ≤ 23 → c ≤ 121 →
    s.fadeOn (.crosspoint b c) = none →
    (s.contrib b c = some x →
      exec (.removeContrib r b c 0 law) s = .next ((s.setBus b { s.bus b with
        list := (s.bus b).list.filter fun y => !(y.source == c),
        tails := (s.bus b).tails ++ [⟨c, x.path, false⟩] }).outcome r .ok).granted) ∧
    (∀ ms, s.contrib b c = some x → 1 ≤ ms → ms ≤ 3600000 → s.lv.fades.length < 1024 →
      ∃ t : State, exec (.removeContrib r b c ms 0) s = .next t.granted ∧
        (t.bus b).list = (s.bus b).list.map (fun y => if y.source == c then { y with leaving := true } else y) ∧
        t.lv = { s.lv with fades := s.lv.fades ++ [⟨.crosspoint b c, .host, x.level, off,
          (ms * s.ck.rate + 63999) / 64000, 0, .linear, true, false⟩] } ∧
        t.ml = (s.outcome r .ok).ml ∧ t = { s with ml := t.ml, lv := t.lv, mx := { s.mx with
          buses := t.mx.buses } }) ∧
    (s.contrib b c = none → exec (.removeContrib r b c 0 law) s = .next (s.outcome r .state).granted)

/-! ### Voice commands -/

/-- START_VOICE on a FREE, scheduled voice that is not reserved makes the start request, owned by the host,
and puts the record in flight: the voice is PRIMING from the start of its sample. The checks come in the
rule's order: number, descriptor, reserve, schedule, state (03, R51, R59, R70; 11, R192; that a number out of
range is refused before an over-long delay is clamped is the model's reading, log 16, and what no rule names of
a voice at its start is its choice, log 5). -/
def Obligations.StartVoicePrimes : Prop :=
  ∀ (s : State) (r : Link) (v delay : Nat) (d : DescField), s.Ready r →
    (1 ≤ v → v ≤ 64 → d.frames ≠ 0 → d.win ≤ 15 → d.mode = 0 → delay ≤ 600000 →
      inSet s.vu.reserve v = false → (s.vu.table = [] ∨ v ∈ s.vu.table) → (s.voice v).st = .free →
      exec (.startVoice r v d delay) s = .next ((s.setVoice v { Voice.reset with
        st := .priming, owner := .host,
        desc := some ⟨d.win, d.off, d.frames, d.loopStart, d.loopEnd, .once⟩,
        start := if delay = 0 then .whenPrimed else .at (s.ck.now + delay * s.ck.rate / 1000),
        startFrom := s.ck.now + 1, pos := ⟨false, 0, some 0, 0, false⟩,
        fpos := ⟨false, 0, some 0, 0, false⟩ }).flying r 8 (.startVoice v false)).granted) ∧
    (delay ≤ 600000 → (d.mode = 2 → 1 ≤ d.count) →
      (v = 0 ∨ 64 < v ∨ d.frames = 0 ∨ 15 < d.win ∨ 2 < d.mode) →
      exec (.startVoice r v d delay) s = .next (s.outcome r .range).granted) ∧
    (600000 < delay → (v = 0 ∨ 64 < v) → exec (.startVoice r v d delay) s = .next (s.outcome r .range).granted) ∧
    (1 ≤ v → v ≤ 64 → d.frames ≠ 0 → d.win ≤ 15 → d.mode = 0 → delay ≤ 600000 →
      (inSet s.vu.reserve v = true → exec (.startVoice r v d delay) s = .next (s.outcome r .reserved).granted) ∧
      (inSet s.vu.reserve v = false → s.vu.table ≠ [] → v ∉ s.vu.table →
        exec (.startVoice r v d delay) s = .next (s.outcome r .state .notScheduled).granted) ∧
      (inSet s.vu.reserve v = false → s.vu.table = [] → (s.voice v).st = .playing →
        exec (.startVoice r v d delay) s = .next (s.outcome r .state .busy).granted))

/-- STOP_VOICE on a playing voice: CUT begins the cut ramp, AFTER begins a tail of its count, and a voice
under CUT takes no further stop. A FREE voice, which has no owner, is DONE with no effect; a page's voice fails
FAILED_RESERVED
(03, R61, R62, R63, R71). TEARDOWN_VOICE on a playing host voice with no fetch outstanding frees it at once,
with VOICE_END TORN_DOWN, and is DONE; with a fetch outstanding the voice is DRAINING and the record stays in
flight; on a FREE voice it is DONE at once (03, R66, R72; what a FREE voice holds where no rule names it is the
model's choice, log 5). -/
def Obligations.StopAndTeardownVoice : Prop :=
  (∀ (s : State) (r : Link) (v n : Nat), s.Ready r → 1 ≤ v → v ≤ 64 →
      ((s.voice v).owner = .host → (s.voice v).st = .playing → (s.voice v).stop ≠ .cut →
        exec (.stopVoice r v 0 n) s = .next ((s.setVoice v { s.voice v with
          ramp := some ⟨(s.voice v).env, 0, 0⟩, stop := .cut }).outcome r .ok).granted) ∧
      ((s.voice v).owner = .host → (s.voice v).st = .playing → (s.voice v).stop ≠ .cut → 1 ≤ n →
        exec (.stopVoice r v 1 n) s = .next ((s.setVoice v { s.voice v with
          st := .tailing, stop := .after, tail := n }).outcome r .ok).granted) ∧
      ((s.voice v).owner = .host → (s.voice v).st = .tailing → (s.voice v).stop ≠ .cut → 1 ≤ n →
        exec (.stopVoice r v 1 n) s = .next ((s.setVoice v { s.voice v with
          st := .tailing, stop := .after, tail := min (s.voice v).tail n }).outcome r .ok).granted) ∧
      (∀ mode, mode ≤ 2 → (s.voice v).owner = .host → (s.voice v).st = .playing → (s.voice v).stop = .cut →
        exec (.stopVoice r v mode n) s = .next (s.outcome r .ok).granted) ∧
      (∀ mode, mode ≤ 2 → (s.voice v).st = .free → (s.voice v).owner = .none →
        exec (.stopVoice r v mode n) s = .next (s.outcome r .ok).granted) ∧
      (∀ id mode, mode ≤ 2 → (s.voice v).owner = .page id →
        exec (.stopVoice r v mode n) s = .next (s.outcome r .reserved).granted) ∧
      (∀ u mode, u = 0 ∨ 64 < u ∨ 2 < mode → exec (.stopVoice r u mode n) s = .next (s.outcome r .range).granted)) ∧
  (∀ (s : State) (r : Link) (v : Nat), s.Ready r → 1 ≤ v → v ≤ 64 →
      (s.Loose v → (s.voice v).st = .playing → (s.voice v).fetch = none → s.Reports 1 →
        s.ml.reader ≠ .blocked →
        exec (.teardownVoice r v) s = .next (((s.posted clsAudio repVoiceEnd (w32 v) (w32 2)
          (w32 (s.voice v).underruns)).setVoice v Voice.reset).outcome r .ok).granted) ∧
      (∀ f, s.Loose v → (s.voice v).st = .playing → (s.voice v).fetch = some f →
        exec (.teardownVoice r v) s = .next ((s.setVoice v { s.voice v with
          st := .draining, start := .notYet, blocks := [], ramp := none, late := false,
          endCause := .tornDown }).flying r 10 (.teardown v)).granted) ∧
      ((s.voice v).st = .free → (s.voice v).owner = .none →
        exec (.teardownVoice r v) s = .next (s.outcome r .ok).granted) ∧
      (∀ u, u = 0 ∨ 64 < u → exec (.teardownVoice r u) s = .next (s.outcome r .range).granted))

/-- SET_RESERVE replaces the reserve when every voice whose membership changes is FREE. SET_SCHEDULE replaces
the table and sets the walker index to 0 unless its list is too long, names a number outside 1–64 (RANGE), or
is not empty and leaves out a voice that is not FREE (STATE). A refusal changes nothing (03, R68, R73, R74). -/
def Obligations.ReserveAndScheduleReplace : Prop :=
  (∀ (s : State) (r : Link) (x : BitVec 64), s.Ready r → (∀ p ∈ s.rc.pages, p.st ≠ .waiting) →
      ((∀ v, 1 ≤ v → v ≤ 64 → inSet x v ≠ inSet s.vu.reserve v → (s.voice v).st = .free) →
        exec (.setReserve r x) s =
          .next (({ s with vu := { s.vu with reserve := x } } : State).outcome r .ok).granted) ∧
      ((∃ v, 1 ≤ v ∧ v ≤ 64 ∧ inSet x v ≠ inSet s.vu.reserve v ∧ (s.voice v).st ≠ .free) →
        exec (.setReserve r x) s = .next (s.outcome r .state).granted)) ∧
  (∀ (s : State) (r : Link) (n : Nat) (l : List Nat), s.Ready r → (∀ p ∈ s.rc.pages, p.st ≠ .waiting) →
      (64 < n ∨ (∃ v ∈ l, v = 0 ∨ 64 < v) → exec (.setSchedule r n l) s = .next (s.outcome r .range).granted) ∧
      (n ≤ 64 → (∀ v ∈ l, 1 ≤ v ∧ v ≤ 64) →
        (l ≠ [] → (∃ v, 1 ≤ v ∧ v ≤ 64 ∧ (s.voice v).st ≠ .free ∧ v ∉ l) →
          exec (.setSchedule r n l) s = .next (s.outcome r .state).granted) ∧
        ((l = [] ∨ ∀ v, 1 ≤ v → v ≤ 64 → (s.voice v).st ≠ .free → v ∈ l) →
          exec (.setSchedule r n l) s = .next
            (({ s with vu := { s.vu with table := l, index := 0 } } : State).outcome r .ok).granted)))

/-! ### Cue commands -/

/-- LOAD_BOOK, GOTO and FIRE begin an arming and stay in flight, with an idle sequence or slot to begin from;
an index above 4095 fails FAILED_RANGE, GOTO in EMPTY and FIRE without a book fail FAILED_STATE, and FIRE on
a busy slot fails FAILED_BUSY (04, R83, R94, R98, R99). -/
def Obligations.ArmingCommandsBegin : Prop :=
  ∀ (s : State) (r : Link) (book : Link) (n : Nat), s.Ready r →
    (4095 < n → exec (.loadBook r book n) s = .next (s.outcome r .range).granted ∧
      exec (.goto r n) s = .next (s.outcome r .range).granted ∧
      exec (.fire r n) s = .next (s.outcome r .range).granted) ∧
    (n ≤ 4095 → book.win ≤ 15 → s.ce.seq = .empty → s.ce.seqArm = none → s.ce.armed = none →
      s.ce.latched = none → s.ce.fire = .idle → s.ml.slots = [] → (∀ e ∈ s.ml.inflight, e.job ≠ .seqArm) →
      exec (.loadBook r book n) s = .next (({ s with ce := { s.ce with
        book := some book, seq := .arming, seqArm := some ⟨Cue.start n, .index⟩, follow := .idle,
        pred := none } } : State).flying r 13 .seqArm).granted) ∧
    (n ≤ 4095 → s.ce.seq = .ended → s.ce.seqArm = none → s.ce.armed = none → s.ce.latched = none →
      s.ml.slots = [] → (∀ e ∈ s.ml.inflight, e.job ≠ .seqArm) →
      exec (.goto r n) s = .next (({ s with ce := { s.ce with
        seq := .arming, seqArm := some ⟨Cue.start n, .index⟩, follow := .idle,
        pred := none } } : State).flying r 14 .seqArm).granted) ∧
    (n ≤ 4095 → s.ce.seq = .empty → exec (.goto r n) s = .next (s.outcome r .state).granted) ∧
    (n ≤ 4095 → s.ce.book = none → exec (.fire r n) s = .next (s.outcome r .state).granted) ∧
    (∀ b, n ≤ 4095 → s.ce.book = some b → s.ce.fire ≠ .idle →
      exec (.fire r n) s = .next (s.outcome r .busy).granted) ∧
    (∀ b, n ≤ 4095 → s.ce.book = some b → s.ce.fire = .idle →
      exec (.fire r n) s = .next (({ s with ce := { s.ce with
        fire := .arming, fireArm := some ⟨Cue.start n, .index⟩ } } : State).flying r 18 .fireArm).granted)

/-- GO by the state it meets: in STANDBY it triggers the armed cue, in ARMING it is latched once, and while
the freeze condition holds, or the sequence has nothing to go to, it is ignored with GO_IGNORED and
FAILED_STATE. The trigger is written out for a last cue without actions; for one with two actions and a next
cue, whose first action executes and whose second is queued while the next cue arms; for one that starts a
primed voice; and for one that finds eight runs, the oldest of which is retired with CUE_OVERRUN (03, R69; 04,
R84, R86, R87, R89, R90, R91, R93, R100). -/
def Obligations.GoActsByState : Prop :=
  ∀ (s : State) (r : Link), s.Ready r →
    (∀ c, s.LastCue c → s.Reports 2 → exec (.go r) s = .next ((s.playedLast c).outcome r .ok).granted) ∧
    (∀ c k v d k2 v2 n, s.NextCue c k v d k2 v2 n → s.Reports 1 →
      exec (.go r) s = .next ((s.playedNext c k v d k2 v2 n).outcome r .ok).granted) ∧
    (∀ c v d, s.Stands c → s.Reports 2 → c.actions = [⟨0, .startVoice v d⟩] → c.primes = [⟨0, v, .primed⟩] →
      c.next = none → 1 ≤ v → v ≤ 64 → (s.voice v).st = .primed → (s.voice v).owner = .await false →
      exec (.go r) s = .next (((s.setVoice v { s.voice v with
        owner := .cue ((s.ce.runCounter + 1) % 2 ^ 32), start := .at s.ck.now, startFrom := s.ck.now + 1,
        late := false }).playedLast c).outcome r .ok).granted) ∧
    (∀ c x rest, s.ce.runs = x :: rest → rest.length = 7 → (∀ y ∈ rest, y.number ≠ x.number) →
      (∀ q ∈ s.ce.queue, q.run ≠ x.number) → s.ce.pred = none →
      ({ s with ce := { s.ce with runs := rest } } : State).LastCue c → s.Reports 3 →
      exec (.go r) s = .next (((({ s with ce := { s.ce with runs := rest } } : State).posted clsCue repCueOverrun
        (w32 x.number) (w32 x.display) (w32 0)).playedLast c).outcome r .ok).granted) ∧
    (s.frozen = false → s.ce.seq = .arming → s.ce.latched = none →
      exec (.go r) s =
        .next (({ s with ce := { s.ce with latched := some .command } } : State).outcome r .ok).granted) ∧
    (∀ why, s.Reports 1 → s.ce.armed = none →
      (s.frozen = true ∧ why = .held ∨
        s.frozen = false ∧ (s.ce.seq = .arming ∧ s.ce.latched.isSome ∧ why = .pending ∨
          s.ce.seq = .ended ∧ why = .ended ∨ s.ce.seq = .empty ∧ why = .empty ∨
          s.ce.seq = .faulted ∧ why = .faulted)) →
      exec (.go r) s = .next ((s.posted clsCue repGoIgnored (w32 0) (w32 (ignoreCode why))
        (w32 0)).outcome r .state).granted)

/-- HOLD begins the freeze condition: every CUE-owned fade is frozen, every due sample, of a queued action and of
the follow timer, becomes a remaining count, and a latched GO is discarded with GO_IGNORED HELD. RELEASE ends it
where the interlock does not hold it: fades go on, and each remaining count becomes a due sample again (01, R21;
04, R85, R87, R91, R95, R96, R97). -/
def Obligations.HoldFreezesReleaseThaws : Prop :=
  ∀ (s : State) (r : Link), s.Ready r →
    let stop := fun w : When => match w with
      | .at d => When.remaining (d - s.ck.now)
      | .remaining n => .remaining n
    let go := fun w : When => match w with
      | .at d => When.at d
      | .remaining n => .at (s.ck.now + n)
    let timer := fun (f : When → When) (x : Follow) => match x with
      | .counting w => Follow.counting (f w)
      | .idle => .idle
      | .waitingDone => .waitingDone
      | .expired => .expired
    (s.frozen = false → s.ce.latched = none →
      ∃ t : State, exec (.hold r) s = .next t.granted ∧ t.ce.hold = true ∧ t.frozen = true ∧
        t.lv = { s.lv with fades := t.lv.fades } ∧
        t.lv.fades = s.lv.fades.map (fun f => if isCueOwner f.owner then { f with frozen := true } else f) ∧
        t.ce.queue = s.ce.queue.map (fun q => { q with due := stop q.due }) ∧
        t.ce.follow = timer stop s.ce.follow ∧
        t.ce.seq = s.ce.seq ∧ t.ce.armed = s.ce.armed ∧ t.ce.runs = s.ce.runs ∧
        t.ml = (s.outcome r .ok).ml ∧ t.mx = s.mx ∧ t.fb = s.fb ∧ t.rc = s.rc ∧ t.il = s.il ∧ t.cu = s.cu ∧
        t.ck = s.ck) ∧
    (s.ce.hold = true → s.interlocked = false → s.ce.follow ≠ .expired → s.ce.fire ≠ .waiting →
      ∃ t : State, exec (.release r) s = .next t.granted ∧ t.ce.hold = false ∧ t.frozen = false ∧
        t.lv = { s.lv with fades := t.lv.fades } ∧
        t.lv.fades = s.lv.fades.map (fun f => if isCueOwner f.owner then { f with frozen := false } else f) ∧
        t.ce.queue = s.ce.queue.map (fun q => { q with due := go q.due }) ∧
        t.ce.follow = timer go s.ce.follow ∧
        t.ce.seq = s.ce.seq ∧ t.ce.armed = s.ce.armed ∧ t.ce.runs = s.ce.runs ∧
        t.ml = (s.outcome r .ok).ml ∧ t.mx = s.mx ∧ t.fb = s.fb ∧ t.rc = s.rc ∧ t.il = s.il ∧ t.cu = s.cu ∧
        t.ck = s.ck) ∧
    (s.frozen = false → s.ce.latched = some .command → s.ce.armed = none → s.Reports 1 →
      ∃ t : State, exec (.hold r) s = .next t.granted ∧ t.ce.hold = true ∧ t.ce.latched = none ∧
        t.lv = { s.lv with fades := t.lv.fades } ∧
        t.lv.fades = s.lv.fades.map (fun f => if isCueOwner f.owner then { f with frozen := true } else f) ∧
        t.ce.queue = s.ce.queue.map (fun q => { q with due := stop q.due }) ∧
        t.ce.follow = timer stop s.ce.follow ∧
        t.ce.seq = s.ce.seq ∧ t.ce.runs = s.ce.runs ∧
        t.ml = ((s.posted clsCue repGoIgnored (w32 0) (w32 (ignoreCode .held)) (w32 0)).outcome r .ok).ml ∧
        t.mx = s.mx ∧ t.fb = s.fb ∧ t.rc = s.rc ∧ t.il = s.il ∧ t.cu = s.cu ∧ t.ck = s.ck) ∧
    (s.ce.hold = true → exec (.hold r) s = .next (s.outcome r .ok).granted) ∧
    (s.ce.hold = false → exec (.release r) s = .next (s.outcome r .ok).granted)

/-- STOP_CUES empties the queue, the runs and every CUE-owned fade, whose levels stay, and returns the follow
timer to IDLE; sequence, armed cue, latch and HOLD are kept (04, R101; where the queue has no START_VOICE
action, no voice is a run's and the fire slot is IDLE). -/
def Obligations.StopCuesEmptiesTheEngine : Prop :=
  ∀ (s : State) (r : Link), s.Ready r → s.ce.fire = .idle →
    (∀ q ∈ s.ce.queue, isStartVoice q.body = false) →
    (∀ v, 1 ≤ v → v ≤ 64 → isRunOwner (s.voice v).owner = false) →
    (s.lv.fades.map (·.target)).Nodup → (∀ f ∈ s.lv.fades, isCueOwner f.owner = true → f.remove = false) →
    exec (.stopCues r) s = .next (({ s with
      ce := { s.ce with
        queue := [], runs := [], follow := .idle,
        pred := s.ce.pred.map fun p => { p with followOff := true } }
      lv := { s.lv with fades := s.lv.fades.filter fun f => !(isCueOwner f.owner) } } : State).outcome r .ok).granted

/-! ### Foldback commands -/

/-- SET_FOLDBACK writes whichever fields are given, within their ranges, and keeps those at LEAVE: an attack or
release of 0 is taken as 1 and one above 64 as 64, a ceiling or dim depth is taken within OFF..0 and the talk level
within OFF..+128, each with CLAMPED, and −32768 is OFF without it. A mix, a hold or a membership out of range fails
FAILED_RANGE. Here talk is off and the mix does not talk (01, R1; 05, R113, R121). -/
def Obligations.SetFoldbackWritesTheMix : Prop :=
  ∀ (s : State) (r : Link) (m : Nat) (f : FoldbackField), s.Ready r →
    let x := s.mix m
    let offset := fun v : Int => max (-1024) (min 0 v)
    let level := fun v : Int => max (-1024) (min 128 v)
    let step := fun n : Nat => max 1 (min 64 n)
    let cut := fun (o : Option Int) (g : Int → Int) => o.any fun v => decide (g v ≠ v ∧ v ≠ -32768)
    let cutStep := fun o : Option Nat => o.any fun n => decide (step n ≠ n)
    (1 ≤ m → m ≤ 16 → s.fb.talk = false → x.talking = false →
      (∀ h, f.hold = some h → h ≤ 1) → (∀ h, f.member = some h → h ≤ 1) →
      exec (.setFoldback r m f) s = .next ((s.setMix m { x with
          held := (f.hold.map fun h => decide (h = 0)).getD x.held
          ceiling := (f.ceiling.map offset).getD x.ceiling
          attack := (f.attack.map step).getD x.attack
          release := (f.release.map step).getD x.release
          talkLevel := (f.talkLevel.map level).getD x.talkLevel
          dimDepth := (f.dim.map offset).getD x.dimDepth
          inSet := (f.member.map fun h => decide (h = 0)).getD x.inSet }).outcome r .ok .none
        (cut f.ceiling offset || cutStep f.attack || cutStep f.release || cut f.talkLevel level ||
          cut f.dim offset)).granted) ∧
    (m = 0 ∨ 16 < m ∨ (∃ h, f.hold = some h ∧ 1 < h) ∨ (∃ h, f.member = some h ∧ 1 < h) →
      exec (.setFoldback r m f) s = .next (s.outcome r .range).granted)

/-- TALK ON makes a mix of the talk set talk: its gate opens and its DIM fades to the dim depth over 50 ms;
TALK OFF shuts the gate and fades DIM to 0 over 200 ms. Here one mix is in the set, the talk function is off
and no DIM fade runs (05, R110, R111, R112, R122). -/
def Obligations.TalkOpensAndShutsTheGate : Prop :=
  ∀ (s : State) (r : Link) (m : Nat), s.Ready r → 1 ≤ m → m ≤ 16 → s.fb.talkFn = false →
    (∀ k, 1 ≤ k → k ≤ 16 → ((s.mix k).inSet = true ↔ k = m)) →
    (∀ k, 1 ≤ k → k ≤ 16 → k ≠ m → (s.mix k).talking = false) →
    s.fadeOn (.dim m) = none → s.lv.fades.length < 1024 →
    (s.fb.talkCmd = false → (s.mix m).talking = false →
      ∃ t : State, exec (.talk r 0) s = .next t.granted ∧ t.fb.talkCmd = true ∧
        t.mix m = { s.mix m with talking := true, gate := true } ∧
        (∀ k, 1 ≤ k → k ≤ 16 → k ≠ m → t.mix k = s.mix k) ∧
        t.lv = { s.lv with fades := s.lv.fades ++ [⟨.dim m, .talk, s.levelOf (.dim m), (s.mix m).dimDepth,
          (50 * s.ck.rate + 63999) / 64000, 0, .linear, false, false⟩] } ∧
        t.ml = (s.outcome r .ok).ml ∧ t.mx = s.mx ∧ t.vu = s.vu ∧ t.ce = s.ce ∧ t.rc = s.rc ∧ t.il = s.il ∧
        t.cu = s.cu ∧ t.ck = s.ck) ∧
    (s.fb.talkCmd = true → (s.mix m).talking = true →
      ∃ t : State, exec (.talk r 1) s = .next t.granted ∧ t.fb.talkCmd = false ∧
        t.mix m = { s.mix m with talking := false, gate := false } ∧
        t.lv = { s.lv with fades := s.lv.fades ++ [⟨.dim m, .talk, s.levelOf (.dim m), 0,
          (200 * s.ck.rate + 63999) / 64000, 0, .linear, false, false⟩] } ∧
        t.ml = (s.outcome r .ok).ml) ∧
    (∀ v, 1 < v → exec (.talk r v) s = .next (s.outcome r .range).granted)

/-- RECALL_SCENE is accepted into the recall list under the next recall number and stays in flight; a window
above 15 or an unknown law fails FAILED_RANGE, and a full list FAILED_FULL (05, R116). -/
def Obligations.RecallSceneJoinsTheList : Prop :=
  ∀ (s : State) (r l : Link) (ms : Nat), s.Ready r → ms ≤ 3600000 →
    (l.win ≤ 15 → s.fb.recalls.length < 16 →
      exec (.recallScene r l ms 2) s = .next (({ s with fb := { s.fb with
        recallCounter := (s.fb.recallCounter + 1) % 2 ^ 32,
        recalls := s.fb.recalls ++ [⟨(s.fb.recallCounter + 1) % 2 ^ 32, some r, l, ms, .late, .header, 0, 0, 0,
          [], false⟩] } } : State).flying r 21 (.scene ((s.fb.recallCounter + 1) % 2 ^ 32))).granted) ∧
    (l.win ≤ 15 → 16 ≤ s.fb.recalls.length → exec (.recallScene r l ms 2) s = .next (s.outcome r .full).granted) ∧
    (∀ law, 15 < l.win ∨ 2 < law → exec (.recallScene r l ms law) s = .next (s.outcome r .range).granted)

/-! ### Relay commands -/

/-- SET_ZONE on a zone without a holder writes whichever fields are given and keeps those at LEAVE: an attack or
release above 60 000 is taken as 60 000, a duck depth within OFF..0 and a page level within OFF..+128, each with
CLAMPED, and −32768 is OFF without it; it recomputes the ON_AIR group set when the group set changes.
SET_PAGE_BUTTON replaces one button's entry, or unsets it, and touches no page; its mic is coded as in the page
record, 1 for P1 and 2 for P2 (the model's choice, log 15). Values out of range fail FAILED_RANGE (01, R1; 06,
R143, R144, R146). -/
def Obligations.SetZoneAndSetPageButton : Prop :=
  (∀ (s : State) (r : Link) (z : Nat) (f : ZoneField), s.Ready r →
      let offset := fun v : Int => max (-1024) (min 0 v)
      let level := fun v : Int => max (-1024) (min 128 v)
      let time := fun n : Nat => min 60000 n
      let cut := fun (o : Option Int) (g : Int → Int) => o.any fun v => decide (g v ≠ v ∧ v ≠ -32768)
      let cutTime := fun o : Option Nat => o.any fun n => decide (60000 < n)
      let clamped := cut f.depth offset || cutTime f.attack || cutTime f.release || cut f.pageLevel level
      let x := s.zone z
      let w : Zone := { x with
        programme := (f.programme.map fun p => decide (p = 0)).getD x.programme
        depth := (f.depth.map offset).getD x.depth
        attack := (f.attack.map time).getD x.attack
        release := (f.release.map time).getD x.release
        groups := f.groups.getD x.groups
        pageLevel := (f.pageLevel.map level).getD x.pageLevel }
      (1 ≤ z → z ≤ 32 → x.holder = none → (∀ p, f.programme = some p → p ≤ 1) →
        (w.groups = x.groups →
          exec (.setZone r z f) s = .next ((s.setZone z w).outcome r .ok .none clamped).granted) ∧
        (w.groups ≠ x.groups →
          ∃ t : State, exec (.setZone r z f) s = .next t.granted ∧ t.rc.onAir = t.onAirGroups ∧
            t = { (s.setZone z w).outcome r .ok .none clamped with
              rc := { (s.setZone z w).rc with onAir := t.rc.onAir } })) ∧
      (z = 0 ∨ 32 < z ∨ (∃ p, f.programme = some p ∧ 1 < p) →
        exec (.setZone r z f) s = .next (s.outcome r .range).granted)) ∧
  (∀ (s : State) (r : Link) (b : Nat) (f : ButtonField), s.Ready r →
      (1 ≤ b → b ≤ 8 → f.priority ≤ 3 → f.mode ≤ 1 → (f.mic = 1 ∨ f.mic = 2) →
        exec (.setPageButton r b 0 f) s = .next (({ s with rc := { s.rc with
          buttons := s.rc.buttons.setIfInBounds (b - 1)
            (some ⟨f.zones, f.groups, f.priority, decide (f.mode = 1), f.mic⟩) } } : State).outcome r .ok).granted) ∧
      (1 ≤ b → b ≤ 8 →
        exec (.setPageButton r b 1 f) s = .next (({ s with rc := { s.rc with
          buttons := s.rc.buttons.setIfInBounds (b - 1) none } } : State).outcome r .ok).granted) ∧
      (∀ u, b = 0 ∨ 8 < b ∨ 1 < u → exec (.setPageButton r b u f) s = .next (s.outcome r .range).granted) ∧
      (3 < f.priority ∨ 1 < f.mode ∨ f.mic = 0 ∨ 2 < f.mic →
        exec (.setPageButton r b 0 f) s = .next (s.outcome r .range).granted))

/-- A LIVE page for one free zone takes the zone and its microphone, with PAGE_GRANTED. With programme disabled,
or the zone's DUCK at its depth, it goes on air in the same moment, with PAGE_ON_AIR and a length limit from the
show clock; where the zone's attack is 0 the DUCK is set to its depth first; otherwise the page stands in ATTACK
while an attack fade of the relay takes the DUCK to its depth. A second page of one id fails FAILED_STATE with
reason DUPLICATE, and below priority 3 while the interlock is ACTIVE or LATCHED with reason INTERLOCK (01, R16;
06, R127, R129, R131, R132, R133, R134, R135, R142, R147). -/
def Obligations.StartPageGrantsALivePage : Prop :=
  ∀ (s : State) (r : Link) (z : Nat) (p : PageField), s.Ready r → 1 ≤ z → z ≤ 32 →
    p.priority ≤ 3 → p.mode = 0 → p.source = 0 → p.mic = 1 → p.chime = 0 → p.id < 0xFF00 →
    p.zones = BitVec.twoPow 32 (z - 1) → p.groups = 0 → p.waitLimit ≤ 600000 → 1 ≤ p.liveLimit →
    p.liveLimit ≤ 600 →
    (s.rc.pages = [] → s.interlocked = false → (∀ y, 1 ≤ y → y ≤ 32 → (s.zone y).holder = none) →
      s.micFree 1 = true → s.Reports 2 → s.fadeOn (.duck z) = none → (s.zone z).duckFade ≠ .attack →
      let x := s.zone z
      let granted := s.posted clsPage repPageGranted (w32 p.id) p.zones (w32 0)
      (x.programme = false ∨ s.levelOf (.duck z) = x.depth ∨ x.attack = 0 →
        ∃ (t : State) (q : Page), exec (.startPage r p) s = .next t.granted ∧ t.rc.pages = [q] ∧
          q.id = p.id ∧ q.st = .onAir ∧ q.gate = true ∧ q.live = true ∧
          q.lengthExpiry = some (s.ck.now + p.liveLimit * s.ck.rate) ∧
          (t.zone z).holder = some p.id ∧ t.micFree 1 = false ∧ t.rc.onAir = t.onAirGroups ∧
          t.levelOf (.duck z) = (if x.programme then x.depth else s.levelOf (.duck z)) ∧
          t.ml = ((granted.posted clsPage repPageOnAir (w32 p.id) p.zones (w32 p.priority)).outcome r .ok).ml ∧
          t.lv = { s.lv with duck := t.lv.duck } ∧ t.mx = s.mx ∧ t.vu = s.vu ∧ t.ce = s.ce ∧ t.fb = s.fb ∧
          t.il = s.il ∧ t.cu = s.cu ∧ t.ck = s.ck) ∧
      (x.programme = true → s.levelOf (.duck z) ≠ x.depth → x.attack ≠ 0 → s.lv.fades.length < 1024 →
        ∃ (t : State) (q : Page), exec (.startPage r p) s = .next t.granted ∧ t.rc.pages = [q] ∧
          q.id = p.id ∧ q.st = .attack ∧ q.gate = false ∧ q.live = true ∧ q.lengthExpiry = none ∧
          t.zone z = { x with holder := some p.id, duckFade := .attack } ∧ t.micFree 1 = false ∧
          t.rc.onAir = s.rc.onAir ∧
          t.lv = { s.lv with fades := s.lv.fades ++ [⟨.duck z, .relay z, s.levelOf (.duck z), x.depth,
            (x.attack * s.ck.rate + 63999) / 64000, 0, .linear, false, false⟩] } ∧
          t.ml = (granted.outcome r .ok).ml ∧ t.mx = s.mx ∧ t.vu = s.vu ∧ t.ce = s.ce ∧ t.fb = s.fb ∧
          t.il = s.il ∧ t.cu = s.cu ∧ t.ck = s.ck)) ∧
    (∀ q, s.page p.id = some q → s.interlocked = false →
      exec (.startPage r p) s = .next (s.outcome r .state .duplicate).granted) ∧
    (s.interlocked = true → p.priority < 3 →
      exec (.startPage r p) s = .next (s.outcome r .state .interlock).granted)

/-- END_PAGE and CANCEL_PAGE remove a WAITING page, RELEASED or CANCELLED; END_PAGE refuses a RECORDED page
with reason NOT_LIVE, and both refuse an absent one with reason ABSENT (06, R138, R140, R141). -/
def Obligations.EndAndCancelPage : Prop :=
  ∀ (s : State) (r : Link) (id : Nat), s.Ready r →
    (∀ p, s.page id = some p → p.st = .waiting → p.live = true → s.Reports 1 →
      exec (.endPage r id) s = .next ((({ s with rc := { s.rc with
        pages := s.rc.pages.filter fun q => !(q.id == id) } } : State).posted clsPage repPageEnded (w32 id)
        (w32 (pageCauseCode .released)) (w32 0)).outcome r .ok).granted) ∧
    (∀ p, s.page id = some p → p.st = .waiting → s.Reports 1 →
      exec (.cancelPage r id) s = .next ((({ s with rc := { s.rc with
        pages := s.rc.pages.filter fun q => !(q.id == id) } } : State).posted clsPage repPageEnded (w32 id)
        (w32 (pageCauseCode .cancelled)) (w32 0)).outcome r .ok).granted) ∧
    (∀ p, s.page id = some p → p.live = false →
      exec (.endPage r id) s = .next (s.outcome r .state .notLive).granted) ∧
    (s.page id = none → exec (.endPage r id) s = .next (s.outcome r .state .absent).granted ∧
      exec (.cancelPage r id) s = .next (s.outcome r .state .absent).granted)

/-! ### Interlock -/

/-- RESUME stores the time in CLEAR and RESUMING, is refused with reason ACTIVE and nothing changed in
ACTIVE, and in LATCHED begins the resume: with a time of 0 every INTERLOCK offset stands at 0 at once, the
state is CLEAR, and INTERLOCK_RESUMED is posted (07, R155, R156; the last where no offset fade runs and the
freeze condition held nothing back). -/
def Obligations.ResumeActsByState : Prop :=
  ∀ (s : State) (r : Link), s.Ready r →
    (∀ ms, ms ≤ 60000 → (s.il.st = .clear ∨ s.il.st = .resuming) →
      exec (.resume r (some ms)) s =
        .next (({ s with il := { s.il with resumeTime := ms } } : State).outcome r .ok).granted) ∧
    (s.il.st = .clear → exec (.resume r none) s = .next (s.outcome r .ok).granted) ∧
    (∀ ms, 60000 < ms → s.il.st = .clear →
      exec (.resume r (some ms)) s =
        .next (({ s with il := { s.il with resumeTime := 60000 } } : State).outcome r .ok .none true).granted) ∧
    (∀ ms, ms ≤ 60000 → s.il.st = .active →
      exec (.resume r (some ms)) s = .next (s.outcome r .state .active).granted) ∧
    (s.il.st = .latched → s.Reports 1 → (∀ f ∈ s.lv.fades, f.target ∉ interlockTargets) →
      s.ce.follow ≠ .expired → s.ce.fire ≠ .waiting → s.cu.routes = [] →
      ∃ t : State, exec (.resume r (some 0)) s = .next t.granted ∧ t.il.st = .clear ∧ t.il.resumeTime = 0 ∧
        (∀ x ∈ interlockTargets, t.levelOf x = 0) ∧
        (∀ x : Target, x.wf = true → x ∉ interlockTargets → t.levelOf x = s.levelOf x) ∧
        t.ml = ((s.posted clsSystem repInterlockResumed (w32 0) (w32 0)
          (w32 (if s.ce.hold then 1 else 0))).outcome r .ok).ml ∧
        t.ce.hold = s.ce.hold ∧ t.mx = s.mx ∧ t.fb = s.fb ∧ t.rc = s.rc ∧ t.cu = s.cu ∧ t.ck = s.ck)

/-! ### Contact commands -/

/-- SET_ROUTE to an input: an edge function takes the contact's state without a delivery, a function is moved
to the new input in its place, INTERLOCK shares no input, and NONE takes an inactive route away. NONE on an
active level function delivers its deactivation: INTERLOCK in ACTIVE is LATCHED, and its record is DONE before
the report of that is written. Codes out of range fail FAILED_RANGE (07, R154; 08, R161, R162, R163; 11, R196;
NONE as input 0 is the model's, log 15). -/
def Obligations.SetRouteWritesTheTable : Prop :=
  ∀ (s : State) (r : Link) (c : Nat), s.Ready r →
    (1 ≤ c → c ≤ 24 → s.cu.routes = [] →
      exec (.setRoute r 0 c 0) s = .next (({ s with cu := { s.cu with
        routes := [⟨.go, c, .closed, (s.input c).closed⟩] } } : State).outcome r .ok).granted) ∧
    (∀ d a, 1 ≤ c → c ≤ 24 → s.cu.routes = [⟨.mark, d, .closed, a⟩] →
      exec (.setRoute r 4 c 1) s = .next (({ s with cu := { s.cu with
        routes := [⟨.mark, c, .opened, !(s.input c).closed⟩] } } : State).outcome r .ok).granted) ∧
    (∀ pol a, 1 ≤ c → c ≤ 24 → s.cu.routes = [⟨.interlock, c, pol, a⟩] →
      exec (.setRoute r 0 c 0) s = .next (s.outcome r .state .interlockInput).granted) ∧
    (∀ d, s.cu.routes = [⟨.talk, d, .closed, false⟩] →
      exec (.setRoute r 2 0 0) s =
        .next (({ s with cu := { s.cu with routes := [] } } : State).outcome r .ok).granted) ∧
    (∀ d, s.cu.routes = [⟨.interlock, d, .closed, true⟩] → s.il.st = .active → s.Reports 1 →
      exec (.setRoute r 3 0 0) s = .next ((({ s with
        cu := { s.cu with routes := [] }
        il := { s.il with st := .latched } } : State).outcome r .ok).posted clsSystem repInterlockLatched
          (w32 0) (w32 (s.ck.now - s.il.activation)) (w32 0)).granted) ∧
    (∀ d h a n, s.cu.routes = [⟨.interlock, d, .closed, true⟩] → s.il.st = .active → s.ml.queue = [] →
      s.ml.nextLink = .known n → s.ml.freeHead = some h → s.ml.anchor = some a →
      s.ml.allows h 32 true = true → s.ml.allows a 8 true = true →
      ∃ (t : State) (x : BusWrite), exec (.setRoute r 3 0 0) s = .next t.granted ∧ t.il.st = .latched ∧
        t.cu.routes = [] ∧ t.ml.freeHead = some n ∧
        t.ml.writes = s.ml.writes ++ finishWrites (s.ml.address r) s.ck.now .ok .none false ++
          [x, ⟨[(s.ml.address a, toLe 1 h.win ++ toLe 7 h.off)]⟩]) ∧
    (∀ f d p, 20 < f ∨ 24 < d ∨ 2 < p → exec (.setRoute r f d p) s = .next (s.outcome r .range).granted)

/-- SET_INPUT writes the debounce time and edge enables given, 0 YES and 1 NO, a time of 0 taken as 1;
SET_PATTERN writes the watcher and sets equal without firing; SET_OUTPUT writes the output's source, keeps
its cue value, and the contact follows at once. Values out of range fail FAILED_RANGE (08, R164, R165, R166,
R167, R169; the codes of YES and NO are the model's, log 15). -/
def Obligations.ContactSettingsAreWritten : Prop :=
  (∀ (s : State) (r : Link) (c : Nat), s.Ready r →
      (∀ t, 1 ≤ c → c ≤ 24 → 1 ≤ t → t ≤ 255 →
        exec (.setInput r c (some t) (some 0) none) s =
          .next ((s.setInput c { s.input c with time := t, rise := true }).outcome r .ok).granted) ∧
      (1 ≤ c → c ≤ 24 →
        exec (.setInput r c (some 0) none (some 1)) s =
          .next ((s.setInput c { s.input c with time := 1, fall := false }).outcome r .ok .none true).granted) ∧
      (∀ t a b, (c = 0 ∨ 24 < c ∨ (∃ x, a = some x ∧ 1 < x) ∨ (∃ x, b = some x ∧ 1 < x)) →
        exec (.setInput r c t a b) s = .next (s.outcome r .range).granted) ∧
      (∀ mask compare line, 1 ≤ line → line ≤ 8 →
        exec (.setPattern r 2 mask compare 2 line) s = .next (({ s with cu := { s.cu with
          mode := .matching, mask := mask, compare := compare, action := .trig line,
          equal := decide (s.pattern &&& mask = compare &&& mask) } } : State).outcome r .ok).granted) ∧
      (∀ mode mask compare action line, 2 < mode ∨ 2 < action ∨ action = 2 ∧ (line = 0 ∨ 8 < line) →
        exec (.setPattern r mode mask compare action line) s = .next (s.outcome r .range).granted)) ∧
  (∀ (s : State) (r : Link) (k g : Nat), s.Ready r →
      (1 ≤ k → k ≤ 16 →
        exec (.setOutput r k 1 g) s = .next ((s.setOutput k { s.output k with source := .on }).outcome r .ok).granted ∧
        ((s.setOutput k { s.output k with source := .on }).outcome r .ok).contactClosed k = true ∧
        exec (.setOutput r k 7 g) s =
          .next ((s.setOutput k { s.output k with source := .cueSet }).outcome r .ok).granted ∧
        ((s.setOutput k { s.output k with source := .cueSet }).outcome r .ok).contactClosed k =
          (s.output k).cueValue ∧
        (1 ≤ g → g ≤ 8 →
          exec (.setOutput r k 6 g) s =
            .next ((s.setOutput k { s.output k with source := .onAir g }).outcome r .ok).granted)) ∧
      (∀ c, k = 0 ∨ 16 < k ∨ 7 < c ∨ c = 6 ∧ (g = 0 ∨ 8 < g) →
        exec (.setOutput r k c g) s = .next (s.outcome r .range).granted))

/-! ### Clock commands -/

/-- SET_CLOCK_LIMITS settles W, C and H in that order, each from the value given or the value stored, writes
the three together with CLAMPED if one differs from what it came from, and changes nothing else (09, R173). -/
def Obligations.ClockLimitsSettleInOrder : Prop :=
  ∀ (s : State) (r : Link) (w c h : Option Nat), s.Ready r →
    ∃ W C H, W = min (max (w.getD s.ck.warn) 10) 10000 ∧ C = max (min (max (c.getD s.ck.change) 10) 10000) W ∧
      H = min (h.getD s.ck.hyst) (W - 1) ∧
      10 ≤ W ∧ W ≤ C ∧ C ≤ 10000 ∧ H < W ∧
      exec (.setClockLimits r w c h) s = .next (({ s with ck := { s.ck with
        warn := W, change := C, hyst := H } } : State).outcome r .ok .none
          (decide (W ≠ w.getD s.ck.warn ∨ C ≠ c.getD s.ck.change ∨ H ≠ h.getD s.ck.hyst))).granted

/-- RELOCK from an internal state begins an acquisition and stays in flight, and is DONE at once on the
external reference; SELECT_CLOCK EXTERNAL begins the same acquisition and is DONE; SELECT_CLOCK INTERNAL
leaves the external reference with a changeover, and INT_FALLBACK without one (09, R175, R176, R177). -/
def Obligations.RelockAndSelectClock : Prop :=
  ∀ (s : State) (r : Link), s.Ready r →
    (s.ck.st = .intFallback ∨ s.ck.st = .intSelected →
      exec (.relock r) s = .next (({ s with ck := { s.ck with
        st := .extAcquiring, good := 0, acqFresh := true } } : State).flying r 35 .relock).granted ∧
      exec (.selectClock r 1) s = .next (({ s with ck := { s.ck with
        st := .extAcquiring, good := 0, acqFresh := true } } : State).outcome r .ok).granted) ∧
    (s.ck.st = .extGood ∨ s.ck.st = .extWarn → exec (.relock r) s = .next (s.outcome r .ok).granted ∧
      exec (.selectClock r 1) s = .next (s.outcome r .ok).granted) ∧
    (s.ck.st = .extGood ∨ s.ck.st = .extWarn → s.ck.selected = true → s.ck.silentNext = none → s.Reports 1 →
      exec (.selectClock r 0) s = .next ((({ s with ck := { s.ck with
        st := .intSelected, selected := false, changeovers := (s.ck.changeovers + 1) % 2 ^ 32,
        silentNext := some ((s.ck.now / 64 + 1) * 64) } } : State).posted clsSystem repClockChangeover (w32 2)
          (w32i 0) (w32 ((s.ck.changeovers + 1) % 2 ^ 32))).outcome r .ok).granted) ∧
    (s.ck.st = .intFallback →
      exec (.selectClock r 0) s =
        .next (({ s with ck := { s.ck with st := .intSelected } } : State).outcome r .ok).granted) ∧
    (∀ v, 1 < v → exec (.selectClock r v) s = .next (s.outcome r .range).granted)

/-! ### Link commands -/

/-- LOAD_WINDOWS with a good count and address waits for its read in flight; SET_POLL takes its interval
within 100–100 000 and restarts the timer; CLEAR_FLAGS clears the flags it names and refuses an empty or
unknown set; MARK posts its value (10, R186; 11, R200). -/
def Obligations.LinkCommands : Prop :=
  ∀ (s : State) (r : Link), s.Ready r →
    (∀ addr : Wide, ∀ n, 1 ≤ n → n ≤ 16 → addr.toNat % 16 = 0 →
      exec (.loadWindows r addr n) s = .next (({ s with ml := { s.ml with
        loads := s.ml.loads ++ [⟨r, addr.toNat, n⟩] } } : State).flying r 36 .loadWindows).granted) ∧
    (∀ addr : Wide, ∀ n, n = 0 ∨ 16 < n ∨ addr.toNat % 16 ≠ 0 →
      exec (.loadWindows r addr n) s = .next (s.outcome r .range).granted) ∧
    (∀ t, exec (.setPoll r t) s = .next (({ s with ml := { s.ml with
        pollInterval := min (max t 100) 100000, pollStart := s.ck.now } } : State).outcome r .ok .none
          (decide (t < 100 ∨ 100000 < t))).granted) ∧
    (∃ t : State, exec (.clearFlags r 1) s = .next t.granted ∧
      (∀ b, b < 25 → t.bus b = { s.bus b with clamp := false }) ∧
      t = { s with ml := (s.outcome r .ok).ml, mx := { s.mx with buses := t.mx.buses } }) ∧
    (∃ t : State, exec (.clearFlags r 2) s = .next t.granted ∧
      (∀ c, 1 ≤ c → c ≤ 24 → t.input c = { s.input c with edge := false }) ∧
      t = { s with ml := (s.outcome r .ok).ml, cu := { s.cu with inputs := t.cu.inputs } }) ∧
    (∀ x, x = 0 ∨ 4 ≤ x.toNat → exec (.clearFlags r x) s = .next (s.outcome r .range).granted) ∧
    (∀ v, s.Reports 1 →
      exec (.mark r v) s = .next ((s.posted clsSystem repMark 0 0 v).outcome r .ok).granted)

/-! ### Arithmetic of the rules -/

/-- The fade laws: k′ of each law, which is 0 at 0 and D at D and does not fall as k rises; the level L_k = S
+ trunc((T − S) × k′ / D), which lies between S and T and is T at k = D; OFF counts as −1024; and the levels
of the rule's table (01, R5). -/
def Obligations.FadeLawsStayBetween : Prop :=
  ∀ (law : Law) (s t : Int) (d k : Nat), 0 < d → k ≤ d →
    shapedCount .linear k d = k ∧ shapedCount .early k d = k * (2 * d - k) / d ∧
    shapedCount .late k d = k * k / d ∧
    shapedCount law 0 d = 0 ∧ shapedCount law d d = d ∧
    (∀ j, j ≤ k → shapedCount law j d ≤ shapedCount law k d) ∧
    fadeLevel s t d k law = s + ((t - s) * (shapedCount law k d : Int)).tdiv d ∧
    min s t ≤ fadeLevel s t d k law ∧ fadeLevel s t d k law ≤ max s t ∧ fadeLevel s t d d law = t ∧
    off = -1024 ∧ ([1, 3, 5, 8, 10].map fun k => (fadeLevel 0 (-640) 10 k .linear,
        fadeLevel 0 (-640) 10 k .early, fadeLevel 0 (-640) 10 k .late)) =
      [(-64, -64, 0), (-192, -320, 0), (-320, -448, -128), (-512, -576, -384), (-640, -640, -640)]

/-- The limiter's threshold: floor(8 388 607 × G / 32 768), 0 at a ceiling of −1024; the values of the rule's
table; a ceiling of 0 takes the release branch whatever the peak, and one of −1024 engages at every peak
above 0 (05, R107). -/
def Obligations.CeilingConvertsToThreshold : Prop :=
  (∀ c : Int, -1024 < c → c ≤ 0 → ceilingThreshold c = (8388607 * gain c).fdiv 32768) ∧
  gain 0 = 32768 ∧ ceilingThreshold 0 = 8388607 ∧
  gain (-64) = 16384 ∧ ceilingThreshold (-64) = 4194303 ∧
  gain (-128) = 8192 ∧ ceilingThreshold (-128) = 2097151 ∧
  gain (-208) = 3444 ∧ ceilingThreshold (-208) = 881663 ∧ ceilingThreshold (-1024) = 0 ∧
  (∀ (attack release : Nat) (peak r : Int), limiterStep 0 attack release peak r = min (r + release) 0) ∧
  (∀ (attack release : Nat) (peak r : Int), 0 < peak →
    limiterStep (-1024) attack release peak r = max (r - attack) (-480))

/-! ### Headline statements -/

/-- Reading a record gives back the command that was laid out in it: for every well-formed chain command, the
128 bytes of its record are POSTED and decode to it (11, R189, R195; the places of the fields are the
model's, log 15). -/
def Obligations.RecordRoundTrip : Prop :=
  ∀ (i : Instr) (r : Link) (b : List Byte), i.wf = true → recordLink i = some r → encodeRecord i = some b →
    b.length = 128 ∧ fieldAt b 8 1 = 1 ∧ isEnd (linkAt b 0) = true ∧ decodeRecord r b = some i

/-- No step exceeds a capacity: from every state within the capacities of reads, reports, commands in flight,
fades, runs, timed actions, recalls, pages and routes, every step that answers a next state leaves them kept
(00; 01, R13; 04, R89; 05, R103; 06, R128; 08, R161; 10, R187; 11, R192, R196). -/
def Obligations.StepsKeepCapacities : Prop :=
  ∀ s t : State, s.WithinCapacity → step s = .next t → t.WithinCapacity

/-- A CAUSE bit, once set, stays set through every step but a host's clear, a register write or a reset (10,
R180). -/
def Obligations.CauseBitsStaySet : Prop :=
  ∀ (s t : State) (c : Instr) (rest : List Instr), s.pending = c :: rest → clearsCause c = false →
    step s = .next t → s.CauseStays t
end

