-- ==== Sys2Proof/Laws/State.lean ====
section
/-! SUPPORT. What each named update of State leaves: one lemma for each field it does not touch, and for the
updates of one field the field's new value. -/

namespace Sys2Proof.Machine

variable (s : State)


/-! ### setBus -/

@[simp] theorem State.setBus_pending (b : Nat) (x : Bus) : (s.setBus b x).pending = s.pending := rfl
@[simp] theorem State.setBus_notices (b : Nat) (x : Bus) : (s.setBus b x).notices = s.notices := rfl
@[simp] theorem State.setBus_choices (b : Nat) (x : Bus) : (s.setBus b x).choices = s.choices := rfl
@[simp] theorem State.setBus_ml (b : Nat) (x : Bus) : (s.setBus b x).ml = s.ml := rfl
@[simp] theorem State.setBus_lv (b : Nat) (x : Bus) : (s.setBus b x).lv = s.lv := rfl
@[simp] theorem State.setBus_vu (b : Nat) (x : Bus) : (s.setBus b x).vu = s.vu := rfl
@[simp] theorem State.setBus_ce (b : Nat) (x : Bus) : (s.setBus b x).ce = s.ce := rfl
@[simp] theorem State.setBus_fb (b : Nat) (x : Bus) : (s.setBus b x).fb = s.fb := rfl
@[simp] theorem State.setBus_rc (b : Nat) (x : Bus) : (s.setBus b x).rc = s.rc := rfl
@[simp] theorem State.setBus_il (b : Nat) (x : Bus) : (s.setBus b x).il = s.il := rfl
@[simp] theorem State.setBus_cu (b : Nat) (x : Bus) : (s.setBus b x).cu = s.cu := rfl
@[simp] theorem State.setBus_ck (b : Nat) (x : Bus) : (s.setBus b x).ck = s.ck := rfl

/-! ### setVoice -/

@[simp] theorem State.setVoice_pending (v : Nat) (x : Voice) :
    (s.setVoice v x).pending = s.pending := rfl
@[simp] theorem State.setVoice_notices (v : Nat) (x : Voice) :
    (s.setVoice v x).notices = s.notices := rfl
@[simp] theorem State.setVoice_choices (v : Nat) (x : Voice) :
    (s.setVoice v x).choices = s.choices := rfl
@[simp] theorem State.setVoice_ml (v : Nat) (x : Voice) : (s.setVoice v x).ml = s.ml := rfl
@[simp] theorem State.setVoice_lv (v : Nat) (x : Voice) : (s.setVoice v x).lv = s.lv := rfl
@[simp] theorem State.setVoice_mx (v : Nat) (x : Voice) : (s.setVoice v x).mx = s.mx := rfl
@[simp] theorem State.setVoice_ce (v : Nat) (x : Voice) : (s.setVoice v x).ce = s.ce := rfl
@[simp] theorem State.setVoice_fb (v : Nat) (x : Voice) : (s.setVoice v x).fb = s.fb := rfl
@[simp] theorem State.setVoice_rc (v : Nat) (x : Voice) : (s.setVoice v x).rc = s.rc := rfl
@[simp] theorem State.setVoice_il (v : Nat) (x : Voice) : (s.setVoice v x).il = s.il := rfl
@[simp] theorem State.setVoice_cu (v : Nat) (x : Voice) : (s.setVoice v x).cu = s.cu := rfl
@[simp] theorem State.setVoice_ck (v : Nat) (x : Voice) : (s.setVoice v x).ck = s.ck := rfl

/-! ### setMix -/

@[simp] theorem State.setMix_pending (m : Nat) (x : Mix) : (s.setMix m x).pending = s.pending := rfl
@[simp] theorem State.setMix_notices (m : Nat) (x : Mix) : (s.setMix m x).notices = s.notices := rfl
@[simp] theorem State.setMix_choices (m : Nat) (x : Mix) : (s.setMix m x).choices = s.choices := rfl
@[simp] theorem State.setMix_ml (m : Nat) (x : Mix) : (s.setMix m x).ml = s.ml := rfl
@[simp] theorem State.setMix_lv (m : Nat) (x : Mix) : (s.setMix m x).lv = s.lv := rfl
@[simp] theorem State.setMix_mx (m : Nat) (x : Mix) : (s.setMix m x).mx = s.mx := rfl
@[simp] theorem State.setMix_vu (m : Nat) (x : Mix) : (s.setMix m x).vu = s.vu := rfl
@[simp] theorem State.setMix_ce (m : Nat) (x : Mix) : (s.setMix m x).ce = s.ce := rfl
@[simp] theorem State.setMix_rc (m : Nat) (x : Mix) : (s.setMix m x).rc = s.rc := rfl
@[simp] theorem State.setMix_il (m : Nat) (x : Mix) : (s.setMix m x).il = s.il := rfl
@[simp] theorem State.setMix_cu (m : Nat) (x : Mix) : (s.setMix m x).cu = s.cu := rfl
@[simp] theorem State.setMix_ck (m : Nat) (x : Mix) : (s.setMix m x).ck = s.ck := rfl

/-! ### setZone -/

@[simp] theorem State.setZone_pending (z : Nat) (x : Zone) : (s.setZone z x).pending = s.pending := rfl
@[simp] theorem State.setZone_notices (z : Nat) (x : Zone) : (s.setZone z x).notices = s.notices := rfl
@[simp] theorem State.setZone_choices (z : Nat) (x : Zone) : (s.setZone z x).choices = s.choices := rfl
@[simp] theorem State.setZone_ml (z : Nat) (x : Zone) : (s.setZone z x).ml = s.ml := rfl
@[simp] theorem State.setZone_lv (z : Nat) (x : Zone) : (s.setZone z x).lv = s.lv := rfl
@[simp] theorem State.setZone_mx (z : Nat) (x : Zone) : (s.setZone z x).mx = s.mx := rfl
@[simp] theorem State.setZone_vu (z : Nat) (x : Zone) : (s.setZone z x).vu = s.vu := rfl
@[simp] theorem State.setZone_ce (z : Nat) (x : Zone) : (s.setZone z x).ce = s.ce := rfl
@[simp] theorem State.setZone_fb (z : Nat) (x : Zone) : (s.setZone z x).fb = s.fb := rfl
@[simp] theorem State.setZone_il (z : Nat) (x : Zone) : (s.setZone z x).il = s.il := rfl
@[simp] theorem State.setZone_cu (z : Nat) (x : Zone) : (s.setZone z x).cu = s.cu := rfl
@[simp] theorem State.setZone_ck (z : Nat) (x : Zone) : (s.setZone z x).ck = s.ck := rfl

/-! ### setInput -/

@[simp] theorem State.setInput_pending (c : Nat) (x : Input) :
    (s.setInput c x).pending = s.pending := rfl
@[simp] theorem State.setInput_notices (c : Nat) (x : Input) :
    (s.setInput c x).notices = s.notices := rfl
@[simp] theorem State.setInput_choices (c : Nat) (x : Input) :
    (s.setInput c x).choices = s.choices := rfl
@[simp] theorem State.setInput_ml (c : Nat) (x : Input) : (s.setInput c x).ml = s.ml := rfl
@[simp] theorem State.setInput_lv (c : Nat) (x : Input) : (s.setInput c x).lv = s.lv := rfl
@[simp] theorem State.setInput_mx (c : Nat) (x : Input) : (s.setInput c x).mx = s.mx := rfl
@[simp] theorem State.setInput_vu (c : Nat) (x : Input) : (s.setInput c x).vu = s.vu := rfl
@[simp] theorem State.setInput_ce (c : Nat) (x : Input) : (s.setInput c x).ce = s.ce := rfl
@[simp] theorem State.setInput_fb (c : Nat) (x : Input) : (s.setInput c x).fb = s.fb := rfl
@[simp] theorem State.setInput_rc (c : Nat) (x : Input) : (s.setInput c x).rc = s.rc := rfl
@[simp] theorem State.setInput_il (c : Nat) (x : Input) : (s.setInput c x).il = s.il := rfl
@[simp] theorem State.setInput_ck (c : Nat) (x : Input) : (s.setInput c x).ck = s.ck := rfl

/-! ### setOutput -/

@[simp] theorem State.setOutput_pending (k : Nat) (x : Output) :
    (s.setOutput k x).pending = s.pending := rfl
@[simp] theorem State.setOutput_notices (k : Nat) (x : Output) :
    (s.setOutput k x).notices = s.notices := rfl
@[simp] theorem State.setOutput_choices (k : Nat) (x : Output) :
    (s.setOutput k x).choices = s.choices := rfl
@[simp] theorem State.setOutput_ml (k : Nat) (x : Output) : (s.setOutput k x).ml = s.ml := rfl
@[simp] theorem State.setOutput_lv (k : Nat) (x : Output) : (s.setOutput k x).lv = s.lv := rfl
@[simp] theorem State.setOutput_mx (k : Nat) (x : Output) : (s.setOutput k x).mx = s.mx := rfl
@[simp] theorem State.setOutput_vu (k : Nat) (x : Output) : (s.setOutput k x).vu = s.vu := rfl
@[simp] theorem State.setOutput_ce (k : Nat) (x : Output) : (s.setOutput k x).ce = s.ce := rfl
@[simp] theorem State.setOutput_fb (k : Nat) (x : Output) : (s.setOutput k x).fb = s.fb := rfl
@[simp] theorem State.setOutput_rc (k : Nat) (x : Output) : (s.setOutput k x).rc = s.rc := rfl
@[simp] theorem State.setOutput_il (k : Nat) (x : Output) : (s.setOutput k x).il = s.il := rfl
@[simp] theorem State.setOutput_ck (k : Nat) (x : Output) : (s.setOutput k x).ck = s.ck := rfl

/-! ### mapContrib -/

@[simp] theorem State.mapContrib_pending (b c : Nat) (f : Contrib → Contrib) :
    (s.mapContrib b c f).pending = s.pending := rfl
@[simp] theorem State.mapContrib_notices (b c : Nat) (f : Contrib → Contrib) :
    (s.mapContrib b c f).notices = s.notices := rfl
@[simp] theorem State.mapContrib_choices (b c : Nat) (f : Contrib → Contrib) :
    (s.mapContrib b c f).choices = s.choices := rfl
@[simp] theorem State.mapContrib_ml (b c : Nat) (f : Contrib → Contrib) :
    (s.mapContrib b c f).ml = s.ml := rfl
@[simp] theorem State.mapContrib_lv (b c : Nat) (f : Contrib → Contrib) :
    (s.mapContrib b c f).lv = s.lv := rfl
@[simp] theorem State.mapContrib_vu (b c : Nat) (f : Contrib → Contrib) :
    (s.mapContrib b c f).vu = s.vu := rfl
@[simp] theorem State.mapContrib_ce (b c : Nat) (f : Contrib → Contrib) :
    (s.mapContrib b c f).ce = s.ce := rfl
@[simp] theorem State.mapContrib_fb (b c : Nat) (f : Contrib → Contrib) :
    (s.mapContrib b c f).fb = s.fb := rfl
@[simp] theorem State.mapContrib_rc (b c : Nat) (f : Contrib → Contrib) :
    (s.mapContrib b c f).rc = s.rc := rfl
@[simp] theorem State.mapContrib_il (b c : Nat) (f : Contrib → Contrib) :
    (s.mapContrib b c f).il = s.il := rfl
@[simp] theorem State.mapContrib_cu (b c : Nat) (f : Contrib → Contrib) :
    (s.mapContrib b c f).cu = s.cu := rfl
@[simp] theorem State.mapContrib_ck (b c : Nat) (f : Contrib → Contrib) :
    (s.mapContrib b c f).ck = s.ck := rfl

/-! ### setFades -/

@[simp] theorem State.setFades_pending (l : List Fade) : (s.setFades l).pending = s.pending := rfl
@[simp] theorem State.setFades_notices (l : List Fade) : (s.setFades l).notices = s.notices := rfl
@[simp] theorem State.setFades_choices (l : List Fade) : (s.setFades l).choices = s.choices := rfl
@[simp] theorem State.setFades_ml (l : List Fade) : (s.setFades l).ml = s.ml := rfl
@[simp] theorem State.setFades_mx (l : List Fade) : (s.setFades l).mx = s.mx := rfl
@[simp] theorem State.setFades_vu (l : List Fade) : (s.setFades l).vu = s.vu := rfl
@[simp] theorem State.setFades_ce (l : List Fade) : (s.setFades l).ce = s.ce := rfl
@[simp] theorem State.setFades_fb (l : List Fade) : (s.setFades l).fb = s.fb := rfl
@[simp] theorem State.setFades_rc (l : List Fade) : (s.setFades l).rc = s.rc := rfl
@[simp] theorem State.setFades_il (l : List Fade) : (s.setFades l).il = s.il := rfl
@[simp] theorem State.setFades_cu (l : List Fade) : (s.setFades l).cu = s.cu := rfl
@[simp] theorem State.setFades_ck (l : List Fade) : (s.setFades l).ck = s.ck := rfl

/-! ### setRoutes -/

@[simp] theorem State.setRoutes_pending (l : List Route) : (s.setRoutes l).pending = s.pending := rfl
@[simp] theorem State.setRoutes_notices (l : List Route) : (s.setRoutes l).notices = s.notices := rfl
@[simp] theorem State.setRoutes_choices (l : List Route) : (s.setRoutes l).choices = s.choices := rfl
@[simp] theorem State.setRoutes_ml (l : List Route) : (s.setRoutes l).ml = s.ml := rfl
@[simp] theorem State.setRoutes_lv (l : List Route) : (s.setRoutes l).lv = s.lv := rfl
@[simp] theorem State.setRoutes_mx (l : List Route) : (s.setRoutes l).mx = s.mx := rfl
@[simp] theorem State.setRoutes_vu (l : List Route) : (s.setRoutes l).vu = s.vu := rfl
@[simp] theorem State.setRoutes_ce (l : List Route) : (s.setRoutes l).ce = s.ce := rfl
@[simp] theorem State.setRoutes_fb (l : List Route) : (s.setRoutes l).fb = s.fb := rfl
@[simp] theorem State.setRoutes_rc (l : List Route) : (s.setRoutes l).rc = s.rc := rfl
@[simp] theorem State.setRoutes_il (l : List Route) : (s.setRoutes l).il = s.il := rfl
@[simp] theorem State.setRoutes_ck (l : List Route) : (s.setRoutes l).ck = s.ck := rfl

/-! ### setFollow -/

@[simp] theorem State.setFollow_pending (f : Follow) : (s.setFollow f).pending = s.pending := rfl
@[simp] theorem State.setFollow_notices (f : Follow) : (s.setFollow f).notices = s.notices := rfl
@[simp] theorem State.setFollow_choices (f : Follow) : (s.setFollow f).choices = s.choices := rfl
@[simp] theorem State.setFollow_ml (f : Follow) : (s.setFollow f).ml = s.ml := rfl
@[simp] theorem State.setFollow_lv (f : Follow) : (s.setFollow f).lv = s.lv := rfl
@[simp] theorem State.setFollow_mx (f : Follow) : (s.setFollow f).mx = s.mx := rfl
@[simp] theorem State.setFollow_vu (f : Follow) : (s.setFollow f).vu = s.vu := rfl
@[simp] theorem State.setFollow_fb (f : Follow) : (s.setFollow f).fb = s.fb := rfl
@[simp] theorem State.setFollow_rc (f : Follow) : (s.setFollow f).rc = s.rc := rfl
@[simp] theorem State.setFollow_il (f : Follow) : (s.setFollow f).il = s.il := rfl
@[simp] theorem State.setFollow_cu (f : Follow) : (s.setFollow f).cu = s.cu := rfl
@[simp] theorem State.setFollow_ck (f : Follow) : (s.setFollow f).ck = s.ck := rfl

/-! ### setIl -/

@[simp] theorem State.setIl_pending (x : IlState) : (s.setIl x).pending = s.pending := rfl
@[simp] theorem State.setIl_notices (x : IlState) : (s.setIl x).notices = s.notices := rfl
@[simp] theorem State.setIl_choices (x : IlState) : (s.setIl x).choices = s.choices := rfl
@[simp] theorem State.setIl_ml (x : IlState) : (s.setIl x).ml = s.ml := rfl
@[simp] theorem State.setIl_lv (x : IlState) : (s.setIl x).lv = s.lv := rfl
@[simp] theorem State.setIl_mx (x : IlState) : (s.setIl x).mx = s.mx := rfl
@[simp] theorem State.setIl_vu (x : IlState) : (s.setIl x).vu = s.vu := rfl
@[simp] theorem State.setIl_ce (x : IlState) : (s.setIl x).ce = s.ce := rfl
@[simp] theorem State.setIl_fb (x : IlState) : (s.setIl x).fb = s.fb := rfl
@[simp] theorem State.setIl_rc (x : IlState) : (s.setIl x).rc = s.rc := rfl
@[simp] theorem State.setIl_cu (x : IlState) : (s.setIl x).cu = s.cu := rfl
@[simp] theorem State.setIl_ck (x : IlState) : (s.setIl x).ck = s.ck := rfl

/-! ### setCk -/

@[simp] theorem State.setCk_pending (c : Ck) : (s.setCk c).pending = s.pending := rfl
@[simp] theorem State.setCk_notices (c : Ck) : (s.setCk c).notices = s.notices := rfl
@[simp] theorem State.setCk_choices (c : Ck) : (s.setCk c).choices = s.choices := rfl
@[simp] theorem State.setCk_ml (c : Ck) : (s.setCk c).ml = s.ml := rfl
@[simp] theorem State.setCk_lv (c : Ck) : (s.setCk c).lv = s.lv := rfl
@[simp] theorem State.setCk_mx (c : Ck) : (s.setCk c).mx = s.mx := rfl
@[simp] theorem State.setCk_vu (c : Ck) : (s.setCk c).vu = s.vu := rfl
@[simp] theorem State.setCk_ce (c : Ck) : (s.setCk c).ce = s.ce := rfl
@[simp] theorem State.setCk_fb (c : Ck) : (s.setCk c).fb = s.fb := rfl
@[simp] theorem State.setCk_rc (c : Ck) : (s.setCk c).rc = s.rc := rfl
@[simp] theorem State.setCk_il (c : Ck) : (s.setCk c).il = s.il := rfl
@[simp] theorem State.setCk_cu (c : Ck) : (s.setCk c).cu = s.cu := rfl

/-! ### setClockState -/

@[simp] theorem State.setClockState_pending (x : ClockState) :
    (s.setClockState x).pending = s.pending := rfl
@[simp] theorem State.setClockState_notices (x : ClockState) :
    (s.setClockState x).notices = s.notices := rfl
@[simp] theorem State.setClockState_choices (x : ClockState) :
    (s.setClockState x).choices = s.choices := rfl
@[simp] theorem State.setClockState_ml (x : ClockState) : (s.setClockState x).ml = s.ml := rfl
@[simp] theorem State.setClockState_lv (x : ClockState) : (s.setClockState x).lv = s.lv := rfl
@[simp] theorem State.setClockState_mx (x : ClockState) : (s.setClockState x).mx = s.mx := rfl
@[simp] theorem State.setClockState_vu (x : ClockState) : (s.setClockState x).vu = s.vu := rfl
@[simp] theorem State.setClockState_ce (x : ClockState) : (s.setClockState x).ce = s.ce := rfl
@[simp] theorem State.setClockState_fb (x : ClockState) : (s.setClockState x).fb = s.fb := rfl
@[simp] theorem State.setClockState_rc (x : ClockState) : (s.setClockState x).rc = s.rc := rfl
@[simp] theorem State.setClockState_il (x : ClockState) : (s.setClockState x).il = s.il := rfl
@[simp] theorem State.setClockState_cu (x : ClockState) : (s.setClockState x).cu = s.cu := rfl

/-! ### setPage -/

@[simp] theorem State.setPage_pending (p : Page) : (s.setPage p).pending = s.pending := rfl
@[simp] theorem State.setPage_notices (p : Page) : (s.setPage p).notices = s.notices := rfl
@[simp] theorem State.setPage_choices (p : Page) : (s.setPage p).choices = s.choices := rfl
@[simp] theorem State.setPage_ml (p : Page) : (s.setPage p).ml = s.ml := rfl
@[simp] theorem State.setPage_lv (p : Page) : (s.setPage p).lv = s.lv := rfl
@[simp] theorem State.setPage_mx (p : Page) : (s.setPage p).mx = s.mx := rfl
@[simp] theorem State.setPage_vu (p : Page) : (s.setPage p).vu = s.vu := rfl
@[simp] theorem State.setPage_ce (p : Page) : (s.setPage p).ce = s.ce := rfl
@[simp] theorem State.setPage_fb (p : Page) : (s.setPage p).fb = s.fb := rfl
@[simp] theorem State.setPage_il (p : Page) : (s.setPage p).il = s.il := rfl
@[simp] theorem State.setPage_cu (p : Page) : (s.setPage p).cu = s.cu := rfl
@[simp] theorem State.setPage_ck (p : Page) : (s.setPage p).ck = s.ck := rfl

/-! ### dropPage -/

@[simp] theorem State.dropPage_pending (id : Nat) : (s.dropPage id).pending = s.pending := rfl
@[simp] theorem State.dropPage_notices (id : Nat) : (s.dropPage id).notices = s.notices := rfl
@[simp] theorem State.dropPage_choices (id : Nat) : (s.dropPage id).choices = s.choices := rfl
@[simp] theorem State.dropPage_ml (id : Nat) : (s.dropPage id).ml = s.ml := rfl
@[simp] theorem State.dropPage_lv (id : Nat) : (s.dropPage id).lv = s.lv := rfl
@[simp] theorem State.dropPage_mx (id : Nat) : (s.dropPage id).mx = s.mx := rfl
@[simp] theorem State.dropPage_vu (id : Nat) : (s.dropPage id).vu = s.vu := rfl
@[simp] theorem State.dropPage_ce (id : Nat) : (s.dropPage id).ce = s.ce := rfl
@[simp] theorem State.dropPage_fb (id : Nat) : (s.dropPage id).fb = s.fb := rfl
@[simp] theorem State.dropPage_il (id : Nat) : (s.dropPage id).il = s.il := rfl
@[simp] theorem State.dropPage_cu (id : Nat) : (s.dropPage id).cu = s.cu := rfl
@[simp] theorem State.dropPage_ck (id : Nat) : (s.dropPage id).ck = s.ck := rfl

/-! ### setHolder -/

@[simp] theorem State.setHolder_pending (z : Nat) (h : Option Nat) :
    (s.setHolder z h).pending = s.pending := rfl
@[simp] theorem State.setHolder_notices (z : Nat) (h : Option Nat) :
    (s.setHolder z h).notices = s.notices := rfl
@[simp] theorem State.setHolder_choices (z : Nat) (h : Option Nat) :
    (s.setHolder z h).choices = s.choices := rfl
@[simp] theorem State.setHolder_ml (z : Nat) (h : Option Nat) : (s.setHolder z h).ml = s.ml := rfl
@[simp] theorem State.setHolder_lv (z : Nat) (h : Option Nat) : (s.setHolder z h).lv = s.lv := rfl
@[simp] theorem State.setHolder_mx (z : Nat) (h : Option Nat) : (s.setHolder z h).mx = s.mx := rfl
@[simp] theorem State.setHolder_vu (z : Nat) (h : Option Nat) : (s.setHolder z h).vu = s.vu := rfl
@[simp] theorem State.setHolder_ce (z : Nat) (h : Option Nat) : (s.setHolder z h).ce = s.ce := rfl
@[simp] theorem State.setHolder_fb (z : Nat) (h : Option Nat) : (s.setHolder z h).fb = s.fb := rfl
@[simp] theorem State.setHolder_il (z : Nat) (h : Option Nat) : (s.setHolder z h).il = s.il := rfl
@[simp] theorem State.setHolder_cu (z : Nat) (h : Option Nat) : (s.setHolder z h).cu = s.cu := rfl
@[simp] theorem State.setHolder_ck (z : Nat) (h : Option Nat) : (s.setHolder z h).ck = s.ck := rfl

/-! ### setDuckFade -/

@[simp] theorem State.setDuckFade_pending (z : Nat) (f : DuckFade) :
    (s.setDuckFade z f).pending = s.pending := rfl
@[simp] theorem State.setDuckFade_notices (z : Nat) (f : DuckFade) :
    (s.setDuckFade z f).notices = s.notices := rfl
@[simp] theorem State.setDuckFade_choices (z : Nat) (f : DuckFade) :
    (s.setDuckFade z f).choices = s.choices := rfl
@[simp] theorem State.setDuckFade_ml (z : Nat) (f : DuckFade) : (s.setDuckFade z f).ml = s.ml := rfl
@[simp] theorem State.setDuckFade_lv (z : Nat) (f : DuckFade) : (s.setDuckFade z f).lv = s.lv := rfl
@[simp] theorem State.setDuckFade_mx (z : Nat) (f : DuckFade) : (s.setDuckFade z f).mx = s.mx := rfl
@[simp] theorem State.setDuckFade_vu (z : Nat) (f : DuckFade) : (s.setDuckFade z f).vu = s.vu := rfl
@[simp] theorem State.setDuckFade_ce (z : Nat) (f : DuckFade) : (s.setDuckFade z f).ce = s.ce := rfl
@[simp] theorem State.setDuckFade_fb (z : Nat) (f : DuckFade) : (s.setDuckFade z f).fb = s.fb := rfl
@[simp] theorem State.setDuckFade_il (z : Nat) (f : DuckFade) : (s.setDuckFade z f).il = s.il := rfl
@[simp] theorem State.setDuckFade_cu (z : Nat) (f : DuckFade) : (s.setDuckFade z f).cu = s.cu := rfl
@[simp] theorem State.setDuckFade_ck (z : Nat) (f : DuckFade) : (s.setDuckFade z f).ck = s.ck := rfl

/-! ### setMic -/

@[simp] theorem State.setMic_pending (m : Nat) (id : Option Nat) :
    (s.setMic m id).pending = s.pending := rfl
@[simp] theorem State.setMic_notices (m : Nat) (id : Option Nat) :
    (s.setMic m id).notices = s.notices := rfl
@[simp] theorem State.setMic_choices (m : Nat) (id : Option Nat) :
    (s.setMic m id).choices = s.choices := rfl
@[simp] theorem State.setMic_ml (m : Nat) (id : Option Nat) : (s.setMic m id).ml = s.ml := rfl
@[simp] theorem State.setMic_lv (m : Nat) (id : Option Nat) : (s.setMic m id).lv = s.lv := rfl
@[simp] theorem State.setMic_mx (m : Nat) (id : Option Nat) : (s.setMic m id).mx = s.mx := rfl
@[simp] theorem State.setMic_vu (m : Nat) (id : Option Nat) : (s.setMic m id).vu = s.vu := rfl
@[simp] theorem State.setMic_ce (m : Nat) (id : Option Nat) : (s.setMic m id).ce = s.ce := rfl
@[simp] theorem State.setMic_fb (m : Nat) (id : Option Nat) : (s.setMic m id).fb = s.fb := rfl
@[simp] theorem State.setMic_il (m : Nat) (id : Option Nat) : (s.setMic m id).il = s.il := rfl
@[simp] theorem State.setMic_cu (m : Nat) (id : Option Nat) : (s.setMic m id).cu = s.cu := rfl
@[simp] theorem State.setMic_ck (m : Nat) (id : Option Nat) : (s.setMic m id).ck = s.ck := rfl

/-! ### handOnAir -/

@[simp] theorem State.handOnAir_pending : (s.handOnAir).pending = s.pending := rfl
@[simp] theorem State.handOnAir_notices : (s.handOnAir).notices = s.notices := rfl
@[simp] theorem State.handOnAir_choices : (s.handOnAir).choices = s.choices := rfl
@[simp] theorem State.handOnAir_ml : (s.handOnAir).ml = s.ml := rfl
@[simp] theorem State.handOnAir_lv : (s.handOnAir).lv = s.lv := rfl
@[simp] theorem State.handOnAir_mx : (s.handOnAir).mx = s.mx := rfl
@[simp] theorem State.handOnAir_vu : (s.handOnAir).vu = s.vu := rfl
@[simp] theorem State.handOnAir_ce : (s.handOnAir).ce = s.ce := rfl
@[simp] theorem State.handOnAir_fb : (s.handOnAir).fb = s.fb := rfl
@[simp] theorem State.handOnAir_il : (s.handOnAir).il = s.il := rfl
@[simp] theorem State.handOnAir_cu : (s.handOnAir).cu = s.cu := rfl
@[simp] theorem State.handOnAir_ck : (s.handOnAir).ck = s.ck := rfl

/-! ### setRecall -/

@[simp] theorem State.setRecall_pending (q : Recall) : (s.setRecall q).pending = s.pending := rfl
@[simp] theorem State.setRecall_notices (q : Recall) : (s.setRecall q).notices = s.notices := rfl
@[simp] theorem State.setRecall_choices (q : Recall) : (s.setRecall q).choices = s.choices := rfl
@[simp] theorem State.setRecall_ml (q : Recall) : (s.setRecall q).ml = s.ml := rfl
@[simp] theorem State.setRecall_lv (q : Recall) : (s.setRecall q).lv = s.lv := rfl
@[simp] theorem State.setRecall_mx (q : Recall) : (s.setRecall q).mx = s.mx := rfl
@[simp] theorem State.setRecall_vu (q : Recall) : (s.setRecall q).vu = s.vu := rfl
@[simp] theorem State.setRecall_ce (q : Recall) : (s.setRecall q).ce = s.ce := rfl
@[simp] theorem State.setRecall_rc (q : Recall) : (s.setRecall q).rc = s.rc := rfl
@[simp] theorem State.setRecall_il (q : Recall) : (s.setRecall q).il = s.il := rfl
@[simp] theorem State.setRecall_cu (q : Recall) : (s.setRecall q).cu = s.cu := rfl
@[simp] theorem State.setRecall_ck (q : Recall) : (s.setRecall q).ck = s.ck := rfl

/-! ### dropRecall -/

@[simp] theorem State.dropRecall_pending (n : Nat) : (s.dropRecall n).pending = s.pending := rfl
@[simp] theorem State.dropRecall_notices (n : Nat) : (s.dropRecall n).notices = s.notices := rfl
@[simp] theorem State.dropRecall_choices (n : Nat) : (s.dropRecall n).choices = s.choices := rfl
@[simp] theorem State.dropRecall_ml (n : Nat) : (s.dropRecall n).ml = s.ml := rfl
@[simp] theorem State.dropRecall_lv (n : Nat) : (s.dropRecall n).lv = s.lv := rfl
@[simp] theorem State.dropRecall_mx (n : Nat) : (s.dropRecall n).mx = s.mx := rfl
@[simp] theorem State.dropRecall_vu (n : Nat) : (s.dropRecall n).vu = s.vu := rfl
@[simp] theorem State.dropRecall_ce (n : Nat) : (s.dropRecall n).ce = s.ce := rfl
@[simp] theorem State.dropRecall_rc (n : Nat) : (s.dropRecall n).rc = s.rc := rfl
@[simp] theorem State.dropRecall_il (n : Nat) : (s.dropRecall n).il = s.il := rfl
@[simp] theorem State.dropRecall_cu (n : Nat) : (s.dropRecall n).cu = s.cu := rfl
@[simp] theorem State.dropRecall_ck (n : Nat) : (s.dropRecall n).ck = s.ck := rfl

/-! ### makeStart -/

@[simp] theorem State.makeStart_pending (v : Nat) (q : StartReq) :
    (s.makeStart v q).pending = s.pending := rfl
@[simp] theorem State.makeStart_notices (v : Nat) (q : StartReq) :
    (s.makeStart v q).notices = s.notices := rfl
@[simp] theorem State.makeStart_choices (v : Nat) (q : StartReq) :
    (s.makeStart v q).choices = s.choices := rfl
@[simp] theorem State.makeStart_ml (v : Nat) (q : StartReq) : (s.makeStart v q).ml = s.ml := rfl
@[simp] theorem State.makeStart_lv (v : Nat) (q : StartReq) : (s.makeStart v q).lv = s.lv := rfl
@[simp] theorem State.makeStart_mx (v : Nat) (q : StartReq) : (s.makeStart v q).mx = s.mx := rfl
@[simp] theorem State.makeStart_ce (v : Nat) (q : StartReq) : (s.makeStart v q).ce = s.ce := rfl
@[simp] theorem State.makeStart_fb (v : Nat) (q : StartReq) : (s.makeStart v q).fb = s.fb := rfl
@[simp] theorem State.makeStart_rc (v : Nat) (q : StartReq) : (s.makeStart v q).rc = s.rc := rfl
@[simp] theorem State.makeStart_il (v : Nat) (q : StartReq) : (s.makeStart v q).il = s.il := rfl
@[simp] theorem State.makeStart_cu (v : Nat) (q : StartReq) : (s.makeStart v q).cu = s.cu := rfl
@[simp] theorem State.makeStart_ck (v : Nat) (q : StartReq) : (s.makeStart v q).ck = s.ck := rfl

/-! ### setStart -/

@[simp] theorem State.setStart_pending (v : Nat) (x : VStart) :
    (s.setStart v x).pending = s.pending := rfl
@[simp] theorem State.setStart_notices (v : Nat) (x : VStart) :
    (s.setStart v x).notices = s.notices := rfl
@[simp] theorem State.setStart_choices (v : Nat) (x : VStart) :
    (s.setStart v x).choices = s.choices := rfl
@[simp] theorem State.setStart_ml (v : Nat) (x : VStart) : (s.setStart v x).ml = s.ml := rfl
@[simp] theorem State.setStart_lv (v : Nat) (x : VStart) : (s.setStart v x).lv = s.lv := rfl
@[simp] theorem State.setStart_mx (v : Nat) (x : VStart) : (s.setStart v x).mx = s.mx := rfl
@[simp] theorem State.setStart_ce (v : Nat) (x : VStart) : (s.setStart v x).ce = s.ce := rfl
@[simp] theorem State.setStart_fb (v : Nat) (x : VStart) : (s.setStart v x).fb = s.fb := rfl
@[simp] theorem State.setStart_rc (v : Nat) (x : VStart) : (s.setStart v x).rc = s.rc := rfl
@[simp] theorem State.setStart_il (v : Nat) (x : VStart) : (s.setStart v x).il = s.il := rfl
@[simp] theorem State.setStart_cu (v : Nat) (x : VStart) : (s.setStart v x).cu = s.cu := rfl
@[simp] theorem State.setStart_ck (v : Nat) (x : VStart) : (s.setStart v x).ck = s.ck := rfl

/-! ### repause -/

@[simp] theorem State.repause_pending : (s.repause).pending = s.pending := rfl
@[simp] theorem State.repause_notices : (s.repause).notices = s.notices := rfl
@[simp] theorem State.repause_choices : (s.repause).choices = s.choices := rfl
@[simp] theorem State.repause_ml : (s.repause).ml = s.ml := rfl
@[simp] theorem State.repause_lv : (s.repause).lv = s.lv := rfl
@[simp] theorem State.repause_mx : (s.repause).mx = s.mx := rfl
@[simp] theorem State.repause_ce : (s.repause).ce = s.ce := rfl
@[simp] theorem State.repause_fb : (s.repause).fb = s.fb := rfl
@[simp] theorem State.repause_rc : (s.repause).rc = s.rc := rfl
@[simp] theorem State.repause_il : (s.repause).il = s.il := rfl
@[simp] theorem State.repause_cu : (s.repause).cu = s.cu := rfl
@[simp] theorem State.repause_ck : (s.repause).ck = s.ck := rfl

/-! ### tell -/

@[simp] theorem State.tell_pending (n : Notice) : (s.tell n).pending = s.pending := rfl
@[simp] theorem State.tell_choices (n : Notice) : (s.tell n).choices = s.choices := rfl
@[simp] theorem State.tell_ml (n : Notice) : (s.tell n).ml = s.ml := rfl
@[simp] theorem State.tell_lv (n : Notice) : (s.tell n).lv = s.lv := rfl
@[simp] theorem State.tell_mx (n : Notice) : (s.tell n).mx = s.mx := rfl
@[simp] theorem State.tell_vu (n : Notice) : (s.tell n).vu = s.vu := rfl
@[simp] theorem State.tell_ce (n : Notice) : (s.tell n).ce = s.ce := rfl
@[simp] theorem State.tell_fb (n : Notice) : (s.tell n).fb = s.fb := rfl
@[simp] theorem State.tell_rc (n : Notice) : (s.tell n).rc = s.rc := rfl
@[simp] theorem State.tell_il (n : Notice) : (s.tell n).il = s.il := rfl
@[simp] theorem State.tell_cu (n : Notice) : (s.tell n).cu = s.cu := rfl
@[simp] theorem State.tell_ck (n : Notice) : (s.tell n).ck = s.ck := rfl

/-! ### setCause -/

@[simp] theorem State.setCause_pending (bit : Nat) : (s.setCause bit).pending = s.pending := rfl
@[simp] theorem State.setCause_notices (bit : Nat) : (s.setCause bit).notices = s.notices := rfl
@[simp] theorem State.setCause_choices (bit : Nat) : (s.setCause bit).choices = s.choices := rfl
@[simp] theorem State.setCause_lv (bit : Nat) : (s.setCause bit).lv = s.lv := rfl
@[simp] theorem State.setCause_mx (bit : Nat) : (s.setCause bit).mx = s.mx := rfl
@[simp] theorem State.setCause_vu (bit : Nat) : (s.setCause bit).vu = s.vu := rfl
@[simp] theorem State.setCause_ce (bit : Nat) : (s.setCause bit).ce = s.ce := rfl
@[simp] theorem State.setCause_fb (bit : Nat) : (s.setCause bit).fb = s.fb := rfl
@[simp] theorem State.setCause_rc (bit : Nat) : (s.setCause bit).rc = s.rc := rfl
@[simp] theorem State.setCause_il (bit : Nat) : (s.setCause bit).il = s.il := rfl
@[simp] theorem State.setCause_cu (bit : Nat) : (s.setCause bit).cu = s.cu := rfl
@[simp] theorem State.setCause_ck (bit : Nat) : (s.setCause bit).ck = s.ck := rfl

/-! ### report -/

@[simp] theorem State.report_pending (cls kind : Nat) (a b c : Word) :
    (s.report cls kind a b c).pending = s.pending := rfl
@[simp] theorem State.report_notices (cls kind : Nat) (a b c : Word) :
    (s.report cls kind a b c).notices = s.notices := rfl
@[simp] theorem State.report_choices (cls kind : Nat) (a b c : Word) :
    (s.report cls kind a b c).choices = s.choices := rfl
@[simp] theorem State.report_lv (cls kind : Nat) (a b c : Word) :
    (s.report cls kind a b c).lv = s.lv := rfl
@[simp] theorem State.report_mx (cls kind : Nat) (a b c : Word) :
    (s.report cls kind a b c).mx = s.mx := rfl
@[simp] theorem State.report_vu (cls kind : Nat) (a b c : Word) :
    (s.report cls kind a b c).vu = s.vu := rfl
@[simp] theorem State.report_ce (cls kind : Nat) (a b c : Word) :
    (s.report cls kind a b c).ce = s.ce := rfl
@[simp] theorem State.report_fb (cls kind : Nat) (a b c : Word) :
    (s.report cls kind a b c).fb = s.fb := rfl
@[simp] theorem State.report_rc (cls kind : Nat) (a b c : Word) :
    (s.report cls kind a b c).rc = s.rc := rfl
@[simp] theorem State.report_il (cls kind : Nat) (a b c : Word) :
    (s.report cls kind a b c).il = s.il := rfl
@[simp] theorem State.report_cu (cls kind : Nat) (a b c : Word) :
    (s.report cls kind a b c).cu = s.cu := rfl
@[simp] theorem State.report_ck (cls kind : Nat) (a b c : Word) :
    (s.report cls kind a b c).ck = s.ck := rfl

/-! ### windowFault -/

@[simp] theorem State.windowFault_pending (l : Link) (b : Block) :
    (s.windowFault l b).pending = s.pending := rfl
@[simp] theorem State.windowFault_notices (l : Link) (b : Block) :
    (s.windowFault l b).notices = s.notices := rfl
@[simp] theorem State.windowFault_choices (l : Link) (b : Block) :
    (s.windowFault l b).choices = s.choices := rfl
@[simp] theorem State.windowFault_lv (l : Link) (b : Block) : (s.windowFault l b).lv = s.lv := rfl
@[simp] theorem State.windowFault_mx (l : Link) (b : Block) : (s.windowFault l b).mx = s.mx := rfl
@[simp] theorem State.windowFault_vu (l : Link) (b : Block) : (s.windowFault l b).vu = s.vu := rfl
@[simp] theorem State.windowFault_ce (l : Link) (b : Block) : (s.windowFault l b).ce = s.ce := rfl
@[simp] theorem State.windowFault_fb (l : Link) (b : Block) : (s.windowFault l b).fb = s.fb := rfl
@[simp] theorem State.windowFault_rc (l : Link) (b : Block) : (s.windowFault l b).rc = s.rc := rfl
@[simp] theorem State.windowFault_il (l : Link) (b : Block) : (s.windowFault l b).il = s.il := rfl
@[simp] theorem State.windowFault_cu (l : Link) (b : Block) : (s.windowFault l b).cu = s.cu := rfl
@[simp] theorem State.windowFault_ck (l : Link) (b : Block) : (s.windowFault l b).ck = s.ck := rfl

/-! ### finish -/

@[simp] theorem State.finish_pending (r : Link) (res : Result) (why : Reason) (k : Bool) :
    (s.finish r res why k).pending = s.pending := rfl
@[simp] theorem State.finish_notices (r : Link) (res : Result) (why : Reason) (k : Bool) :
    (s.finish r res why k).notices = s.notices := rfl
@[simp] theorem State.finish_choices (r : Link) (res : Result) (why : Reason) (k : Bool) :
    (s.finish r res why k).choices = s.choices := rfl
@[simp] theorem State.finish_lv (r : Link) (res : Result) (why : Reason) (k : Bool) :
    (s.finish r res why k).lv = s.lv := rfl
@[simp] theorem State.finish_mx (r : Link) (res : Result) (why : Reason) (k : Bool) :
    (s.finish r res why k).mx = s.mx := rfl
@[simp] theorem State.finish_vu (r : Link) (res : Result) (why : Reason) (k : Bool) :
    (s.finish r res why k).vu = s.vu := rfl
@[simp] theorem State.finish_ce (r : Link) (res : Result) (why : Reason) (k : Bool) :
    (s.finish r res why k).ce = s.ce := rfl
@[simp] theorem State.finish_fb (r : Link) (res : Result) (why : Reason) (k : Bool) :
    (s.finish r res why k).fb = s.fb := rfl
@[simp] theorem State.finish_rc (r : Link) (res : Result) (why : Reason) (k : Bool) :
    (s.finish r res why k).rc = s.rc := rfl
@[simp] theorem State.finish_il (r : Link) (res : Result) (why : Reason) (k : Bool) :
    (s.finish r res why k).il = s.il := rfl
@[simp] theorem State.finish_cu (r : Link) (res : Result) (why : Reason) (k : Bool) :
    (s.finish r res why k).cu = s.cu := rfl
@[simp] theorem State.finish_ck (r : Link) (res : Result) (why : Reason) (k : Bool) :
    (s.finish r res why k).ck = s.ck := rfl

/-! ### finishJob -/

@[simp] theorem State.finishJob_pending (j : Job) (res : Result) (k : Bool) :
    (s.finishJob j res k).pending = s.pending := rfl
@[simp] theorem State.finishJob_notices (j : Job) (res : Result) (k : Bool) :
    (s.finishJob j res k).notices = s.notices := rfl
@[simp] theorem State.finishJob_choices (j : Job) (res : Result) (k : Bool) :
    (s.finishJob j res k).choices = s.choices := rfl
@[simp] theorem State.finishJob_lv (j : Job) (res : Result) (k : Bool) :
    (s.finishJob j res k).lv = s.lv := rfl
@[simp] theorem State.finishJob_mx (j : Job) (res : Result) (k : Bool) :
    (s.finishJob j res k).mx = s.mx := rfl
@[simp] theorem State.finishJob_vu (j : Job) (res : Result) (k : Bool) :
    (s.finishJob j res k).vu = s.vu := rfl
@[simp] theorem State.finishJob_ce (j : Job) (res : Result) (k : Bool) :
    (s.finishJob j res k).ce = s.ce := rfl
@[simp] theorem State.finishJob_fb (j : Job) (res : Result) (k : Bool) :
    (s.finishJob j res k).fb = s.fb := rfl
@[simp] theorem State.finishJob_rc (j : Job) (res : Result) (k : Bool) :
    (s.finishJob j res k).rc = s.rc := rfl
@[simp] theorem State.finishJob_il (j : Job) (res : Result) (k : Bool) :
    (s.finishJob j res k).il = s.il := rfl
@[simp] theorem State.finishJob_cu (j : Job) (res : Result) (k : Bool) :
    (s.finishJob j res k).cu = s.cu := rfl
@[simp] theorem State.finishJob_ck (j : Job) (res : Result) (k : Bool) :
    (s.finishJob j res k).ck = s.ck := rfl

/-! ### hold -/

@[simp] theorem State.hold_pending (r : Link) (kind : Nat) (j : Job) (k : Bool) :
    (s.hold r kind j k).pending = s.pending := rfl
@[simp] theorem State.hold_notices (r : Link) (kind : Nat) (j : Job) (k : Bool) :
    (s.hold r kind j k).notices = s.notices := rfl
@[simp] theorem State.hold_choices (r : Link) (kind : Nat) (j : Job) (k : Bool) :
    (s.hold r kind j k).choices = s.choices := rfl
@[simp] theorem State.hold_lv (r : Link) (kind : Nat) (j : Job) (k : Bool) :
    (s.hold r kind j k).lv = s.lv := rfl
@[simp] theorem State.hold_mx (r : Link) (kind : Nat) (j : Job) (k : Bool) :
    (s.hold r kind j k).mx = s.mx := rfl
@[simp] theorem State.hold_vu (r : Link) (kind : Nat) (j : Job) (k : Bool) :
    (s.hold r kind j k).vu = s.vu := rfl
@[simp] theorem State.hold_ce (r : Link) (kind : Nat) (j : Job) (k : Bool) :
    (s.hold r kind j k).ce = s.ce := rfl
@[simp] theorem State.hold_fb (r : Link) (kind : Nat) (j : Job) (k : Bool) :
    (s.hold r kind j k).fb = s.fb := rfl
@[simp] theorem State.hold_rc (r : Link) (kind : Nat) (j : Job) (k : Bool) :
    (s.hold r kind j k).rc = s.rc := rfl
@[simp] theorem State.hold_il (r : Link) (kind : Nat) (j : Job) (k : Bool) :
    (s.hold r kind j k).il = s.il := rfl
@[simp] theorem State.hold_cu (r : Link) (kind : Nat) (j : Job) (k : Bool) :
    (s.hold r kind j k).cu = s.cu := rfl
@[simp] theorem State.hold_ck (r : Link) (kind : Nat) (j : Job) (k : Bool) :
    (s.hold r kind j k).ck = s.ck := rfl

/-! ### staleRead -/

@[simp] theorem State.staleRead_pending (fire : Bool) : (s.staleRead fire).pending = s.pending := rfl
@[simp] theorem State.staleRead_notices (fire : Bool) : (s.staleRead fire).notices = s.notices := rfl
@[simp] theorem State.staleRead_choices (fire : Bool) : (s.staleRead fire).choices = s.choices := rfl
@[simp] theorem State.staleRead_lv (fire : Bool) : (s.staleRead fire).lv = s.lv := rfl
@[simp] theorem State.staleRead_mx (fire : Bool) : (s.staleRead fire).mx = s.mx := rfl
@[simp] theorem State.staleRead_vu (fire : Bool) : (s.staleRead fire).vu = s.vu := rfl
@[simp] theorem State.staleRead_ce (fire : Bool) : (s.staleRead fire).ce = s.ce := rfl
@[simp] theorem State.staleRead_fb (fire : Bool) : (s.staleRead fire).fb = s.fb := rfl
@[simp] theorem State.staleRead_rc (fire : Bool) : (s.staleRead fire).rc = s.rc := rfl
@[simp] theorem State.staleRead_il (fire : Bool) : (s.staleRead fire).il = s.il := rfl
@[simp] theorem State.staleRead_cu (fire : Bool) : (s.staleRead fire).cu = s.cu := rfl
@[simp] theorem State.staleRead_ck (fire : Bool) : (s.staleRead fire).ck = s.ck := rfl

/-! ### unholdStart -/

@[simp] theorem State.unholdStart_pending (v : Nat) : (s.unholdStart v).pending = s.pending := rfl
@[simp] theorem State.unholdStart_notices (v : Nat) : (s.unholdStart v).notices = s.notices := rfl
@[simp] theorem State.unholdStart_choices (v : Nat) : (s.unholdStart v).choices = s.choices := rfl
@[simp] theorem State.unholdStart_lv (v : Nat) : (s.unholdStart v).lv = s.lv := rfl
@[simp] theorem State.unholdStart_mx (v : Nat) : (s.unholdStart v).mx = s.mx := rfl
@[simp] theorem State.unholdStart_vu (v : Nat) : (s.unholdStart v).vu = s.vu := rfl
@[simp] theorem State.unholdStart_ce (v : Nat) : (s.unholdStart v).ce = s.ce := rfl
@[simp] theorem State.unholdStart_fb (v : Nat) : (s.unholdStart v).fb = s.fb := rfl
@[simp] theorem State.unholdStart_rc (v : Nat) : (s.unholdStart v).rc = s.rc := rfl
@[simp] theorem State.unholdStart_il (v : Nat) : (s.unholdStart v).il = s.il := rfl
@[simp] theorem State.unholdStart_cu (v : Nat) : (s.unholdStart v).cu = s.cu := rfl
@[simp] theorem State.unholdStart_ck (v : Nat) : (s.unholdStart v).ck = s.ck := rfl

/-! ### outcome -/

@[simp] theorem State.outcome_pending (r : Link) (res : Result) (why : Reason) (k : Bool) :
    (s.outcome r res why k).pending = s.pending := rfl
@[simp] theorem State.outcome_notices (r : Link) (res : Result) (why : Reason) (k : Bool) :
    (s.outcome r res why k).notices = s.notices := rfl
@[simp] theorem State.outcome_choices (r : Link) (res : Result) (why : Reason) (k : Bool) :
    (s.outcome r res why k).choices = s.choices := rfl
@[simp] theorem State.outcome_lv (r : Link) (res : Result) (why : Reason) (k : Bool) :
    (s.outcome r res why k).lv = s.lv := rfl
@[simp] theorem State.outcome_mx (r : Link) (res : Result) (why : Reason) (k : Bool) :
    (s.outcome r res why k).mx = s.mx := rfl
@[simp] theorem State.outcome_vu (r : Link) (res : Result) (why : Reason) (k : Bool) :
    (s.outcome r res why k).vu = s.vu := rfl
@[simp] theorem State.outcome_ce (r : Link) (res : Result) (why : Reason) (k : Bool) :
    (s.outcome r res why k).ce = s.ce := rfl
@[simp] theorem State.outcome_fb (r : Link) (res : Result) (why : Reason) (k : Bool) :
    (s.outcome r res why k).fb = s.fb := rfl
@[simp] theorem State.outcome_rc (r : Link) (res : Result) (why : Reason) (k : Bool) :
    (s.outcome r res why k).rc = s.rc := rfl
@[simp] theorem State.outcome_il (r : Link) (res : Result) (why : Reason) (k : Bool) :
    (s.outcome r res why k).il = s.il := rfl
@[simp] theorem State.outcome_cu (r : Link) (res : Result) (why : Reason) (k : Bool) :
    (s.outcome r res why k).cu = s.cu := rfl
@[simp] theorem State.outcome_ck (r : Link) (res : Result) (why : Reason) (k : Bool) :
    (s.outcome r res why k).ck = s.ck := rfl

/-! ### flying -/

@[simp] theorem State.flying_pending (r : Link) (kind : Nat) (j : Job) (k : Bool) :
    (s.flying r kind j k).pending = s.pending := rfl
@[simp] theorem State.flying_notices (r : Link) (kind : Nat) (j : Job) (k : Bool) :
    (s.flying r kind j k).notices = s.notices := rfl
@[simp] theorem State.flying_choices (r : Link) (kind : Nat) (j : Job) (k : Bool) :
    (s.flying r kind j k).choices = s.choices := rfl
@[simp] theorem State.flying_lv (r : Link) (kind : Nat) (j : Job) (k : Bool) :
    (s.flying r kind j k).lv = s.lv := rfl
@[simp] theorem State.flying_mx (r : Link) (kind : Nat) (j : Job) (k : Bool) :
    (s.flying r kind j k).mx = s.mx := rfl
@[simp] theorem State.flying_vu (r : Link) (kind : Nat) (j : Job) (k : Bool) :
    (s.flying r kind j k).vu = s.vu := rfl
@[simp] theorem State.flying_ce (r : Link) (kind : Nat) (j : Job) (k : Bool) :
    (s.flying r kind j k).ce = s.ce := rfl
@[simp] theorem State.flying_fb (r : Link) (kind : Nat) (j : Job) (k : Bool) :
    (s.flying r kind j k).fb = s.fb := rfl
@[simp] theorem State.flying_rc (r : Link) (kind : Nat) (j : Job) (k : Bool) :
    (s.flying r kind j k).rc = s.rc := rfl
@[simp] theorem State.flying_il (r : Link) (kind : Nat) (j : Job) (k : Bool) :
    (s.flying r kind j k).il = s.il := rfl
@[simp] theorem State.flying_cu (r : Link) (kind : Nat) (j : Job) (k : Bool) :
    (s.flying r kind j k).cu = s.cu := rfl
@[simp] theorem State.flying_ck (r : Link) (kind : Nat) (j : Job) (k : Bool) :
    (s.flying r kind j k).ck = s.ck := rfl

/-! ### posted -/

@[simp] theorem State.posted_pending (cls kind : Nat) (a b c : Word) :
    (s.posted cls kind a b c).pending = s.pending := rfl
@[simp] theorem State.posted_notices (cls kind : Nat) (a b c : Word) :
    (s.posted cls kind a b c).notices = s.notices := rfl
@[simp] theorem State.posted_choices (cls kind : Nat) (a b c : Word) :
    (s.posted cls kind a b c).choices = s.choices := rfl
@[simp] theorem State.posted_lv (cls kind : Nat) (a b c : Word) :
    (s.posted cls kind a b c).lv = s.lv := rfl
@[simp] theorem State.posted_mx (cls kind : Nat) (a b c : Word) :
    (s.posted cls kind a b c).mx = s.mx := rfl
@[simp] theorem State.posted_vu (cls kind : Nat) (a b c : Word) :
    (s.posted cls kind a b c).vu = s.vu := rfl
@[simp] theorem State.posted_ce (cls kind : Nat) (a b c : Word) :
    (s.posted cls kind a b c).ce = s.ce := rfl
@[simp] theorem State.posted_fb (cls kind : Nat) (a b c : Word) :
    (s.posted cls kind a b c).fb = s.fb := rfl
@[simp] theorem State.posted_rc (cls kind : Nat) (a b c : Word) :
    (s.posted cls kind a b c).rc = s.rc := rfl
@[simp] theorem State.posted_il (cls kind : Nat) (a b c : Word) :
    (s.posted cls kind a b c).il = s.il := rfl
@[simp] theorem State.posted_cu (cls kind : Nat) (a b c : Word) :
    (s.posted cls kind a b c).cu = s.cu := rfl
@[simp] theorem State.posted_ck (cls kind : Nat) (a b c : Word) :
    (s.posted cls kind a b c).ck = s.ck := rfl

/-! ### The field an update writes -/

@[simp] theorem State.setFades_lv_fades (l : List Fade) : (s.setFades l).lv.fades = l := rfl
@[simp] theorem State.setFades_lv (l : List Fade) : (s.setFades l).lv = { s.lv with fades := l } := rfl
@[simp] theorem State.setRoutes_routes (l : List Route) : (s.setRoutes l).cu.routes = l := rfl
@[simp] theorem State.setFollow_follow (f : Follow) : (s.setFollow f).ce.follow = f := rfl
@[simp] theorem State.setIl_st (x : IlState) : (s.setIl x).il.st = x := rfl
@[simp] theorem State.setCk_ck (c : Ck) : (s.setCk c).ck = c := rfl
@[simp] theorem State.setClockState_st (x : ClockState) : (s.setClockState x).ck.st = x := rfl
@[simp] theorem State.tell_notices (n : Notice) : (s.tell n).notices = s.notices ++ [n] := rfl
@[simp] theorem State.setCause_ml (bit : Nat) : (s.setCause bit).ml = s.ml.setCause bit := rfl

end Sys2Proof.Machine
end

