-- ==== Sys2Proof/Laws/Link.lean ====
section
/-! SUPPORT. What each operation of the memory link can do: fields kept, finishing a record, raising a report,
and an operation without notices. -/

namespace Sys2Proof.Machine

/-! ### Fields kept -/

section
variable (m : Ml)

@[simp] theorem Ml.setCause_part (bit : Nat) : (m.setCause bit).part = m.part := rfl
@[simp] theorem Ml.setCause_run (bit : Nat) : (m.setCause bit).run = m.run := rfl
@[simp] theorem Ml.setCause_root (bit : Nat) : (m.setCause bit).root = m.root := rfl
@[simp] theorem Ml.setCause_mask (bit : Nat) : (m.setCause bit).mask = m.mask := rfl
@[simp] theorem Ml.setCause_phase (bit : Nat) : (m.setCause bit).phase = m.phase := rfl
@[simp] theorem Ml.setCause_abandoned (bit : Nat) : (m.setCause bit).abandoned = m.abandoned := rfl
@[simp] theorem Ml.setCause_setup (bit : Nat) : (m.setCause bit).setup = m.setup := rfl
@[simp] theorem Ml.setCause_windows (bit : Nat) : (m.setCause bit).windows = m.windows := rfl
@[simp] theorem Ml.setCause_lastFault (bit : Nat) : (m.setCause bit).lastFault = m.lastFault := rfl
@[simp] theorem Ml.setCause_slots (bit : Nat) : (m.setCause bit).slots = m.slots := rfl
@[simp] theorem Ml.setCause_loads (bit : Nat) : (m.setCause bit).loads = m.loads := rfl
@[simp] theorem Ml.setCause_position (bit : Nat) : (m.setCause bit).position = m.position := rfl
@[simp] theorem Ml.setCause_reader (bit : Nat) : (m.setCause bit).reader = m.reader := rfl
@[simp] theorem Ml.setCause_lookOwed (bit : Nat) : (m.setCause bit).lookOwed = m.lookOwed := rfl
@[simp] theorem Ml.setCause_pollInterval (bit : Nat) :
    (m.setCause bit).pollInterval = m.pollInterval := rfl
@[simp] theorem Ml.setCause_pollStart (bit : Nat) : (m.setCause bit).pollStart = m.pollStart := rfl
@[simp] theorem Ml.setCause_inflight (bit : Nat) : (m.setCause bit).inflight = m.inflight := rfl
@[simp] theorem Ml.setCause_freeHead (bit : Nat) : (m.setCause bit).freeHead = m.freeHead := rfl
@[simp] theorem Ml.setCause_nextLink (bit : Nat) : (m.setCause bit).nextLink = m.nextLink := rfl
@[simp] theorem Ml.setCause_anchor (bit : Nat) : (m.setCause bit).anchor = m.anchor := rfl
@[simp] theorem Ml.setCause_queue (bit : Nat) : (m.setCause bit).queue = m.queue := rfl
@[simp] theorem Ml.setCause_headWanted (bit : Nat) : (m.setCause bit).headWanted = m.headWanted := rfl
@[simp] theorem Ml.setCause_lost (bit : Nat) : (m.setCause bit).lost = m.lost := rfl
@[simp] theorem Ml.setCause_statusCount (bit : Nat) : (m.setCause bit).statusCount = m.statusCount := rfl
@[simp] theorem Ml.setCause_nextStatus (bit : Nat) : (m.setCause bit).nextStatus = m.nextStatus := rfl
@[simp] theorem Ml.setCause_writes (bit : Nat) : (m.setCause bit).writes = m.writes := rfl
@[simp] theorem Ml.write_part (runs : List (Nat × List Byte)) : (m.write runs).part = m.part := rfl
@[simp] theorem Ml.write_run (runs : List (Nat × List Byte)) : (m.write runs).run = m.run := rfl
@[simp] theorem Ml.write_root (runs : List (Nat × List Byte)) : (m.write runs).root = m.root := rfl
@[simp] theorem Ml.write_cause (runs : List (Nat × List Byte)) : (m.write runs).cause = m.cause := rfl
@[simp] theorem Ml.write_mask (runs : List (Nat × List Byte)) : (m.write runs).mask = m.mask := rfl
@[simp] theorem Ml.write_phase (runs : List (Nat × List Byte)) : (m.write runs).phase = m.phase := rfl
@[simp] theorem Ml.write_abandoned (runs : List (Nat × List Byte)) :
    (m.write runs).abandoned = m.abandoned := rfl
@[simp] theorem Ml.write_setup (runs : List (Nat × List Byte)) : (m.write runs).setup = m.setup := rfl
@[simp] theorem Ml.write_windows (runs : List (Nat × List Byte)) :
    (m.write runs).windows = m.windows := rfl
@[simp] theorem Ml.write_lastFault (runs : List (Nat × List Byte)) :
    (m.write runs).lastFault = m.lastFault := rfl
@[simp] theorem Ml.write_slots (runs : List (Nat × List Byte)) : (m.write runs).slots = m.slots := rfl
@[simp] theorem Ml.write_loads (runs : List (Nat × List Byte)) : (m.write runs).loads = m.loads := rfl
@[simp] theorem Ml.write_position (runs : List (Nat × List Byte)) :
    (m.write runs).position = m.position := rfl
@[simp] theorem Ml.write_reader (runs : List (Nat × List Byte)) : (m.write runs).reader = m.reader := rfl
@[simp] theorem Ml.write_lookOwed (runs : List (Nat × List Byte)) :
    (m.write runs).lookOwed = m.lookOwed := rfl
@[simp] theorem Ml.write_pollInterval (runs : List (Nat × List Byte)) :
    (m.write runs).pollInterval = m.pollInterval := rfl
@[simp] theorem Ml.write_pollStart (runs : List (Nat × List Byte)) :
    (m.write runs).pollStart = m.pollStart := rfl
@[simp] theorem Ml.write_inflight (runs : List (Nat × List Byte)) :
    (m.write runs).inflight = m.inflight := rfl
@[simp] theorem Ml.write_freeHead (runs : List (Nat × List Byte)) :
    (m.write runs).freeHead = m.freeHead := rfl
@[simp] theorem Ml.write_nextLink (runs : List (Nat × List Byte)) :
    (m.write runs).nextLink = m.nextLink := rfl
@[simp] theorem Ml.write_anchor (runs : List (Nat × List Byte)) : (m.write runs).anchor = m.anchor := rfl
@[simp] theorem Ml.write_queue (runs : List (Nat × List Byte)) : (m.write runs).queue = m.queue := rfl
@[simp] theorem Ml.write_headWanted (runs : List (Nat × List Byte)) :
    (m.write runs).headWanted = m.headWanted := rfl
@[simp] theorem Ml.write_lost (runs : List (Nat × List Byte)) : (m.write runs).lost = m.lost := rfl
@[simp] theorem Ml.write_statusCount (runs : List (Nat × List Byte)) :
    (m.write runs).statusCount = m.statusCount := rfl
@[simp] theorem Ml.write_nextStatus (runs : List (Nat × List Byte)) :
    (m.write runs).nextStatus = m.nextStatus := rfl
@[simp] theorem Ml.hold_part (r : Link) (kind : Nat) (j : Job) (k : Bool) :
    (m.hold r kind j k).part = m.part := rfl
@[simp] theorem Ml.hold_run (r : Link) (kind : Nat) (j : Job) (k : Bool) :
    (m.hold r kind j k).run = m.run := rfl
@[simp] theorem Ml.hold_root (r : Link) (kind : Nat) (j : Job) (k : Bool) :
    (m.hold r kind j k).root = m.root := rfl
@[simp] theorem Ml.hold_cause (r : Link) (kind : Nat) (j : Job) (k : Bool) :
    (m.hold r kind j k).cause = m.cause := rfl
@[simp] theorem Ml.hold_mask (r : Link) (kind : Nat) (j : Job) (k : Bool) :
    (m.hold r kind j k).mask = m.mask := rfl
@[simp] theorem Ml.hold_phase (r : Link) (kind : Nat) (j : Job) (k : Bool) :
    (m.hold r kind j k).phase = m.phase := rfl
@[simp] theorem Ml.hold_abandoned (r : Link) (kind : Nat) (j : Job) (k : Bool) :
    (m.hold r kind j k).abandoned = m.abandoned := rfl
@[simp] theorem Ml.hold_setup (r : Link) (kind : Nat) (j : Job) (k : Bool) :
    (m.hold r kind j k).setup = m.setup := rfl
@[simp] theorem Ml.hold_windows (r : Link) (kind : Nat) (j : Job) (k : Bool) :
    (m.hold r kind j k).windows = m.windows := rfl
@[simp] theorem Ml.hold_lastFault (r : Link) (kind : Nat) (j : Job) (k : Bool) :
    (m.hold r kind j k).lastFault = m.lastFault := rfl
@[simp] theorem Ml.hold_slots (r : Link) (kind : Nat) (j : Job) (k : Bool) :
    (m.hold r kind j k).slots = m.slots := rfl
@[simp] theorem Ml.hold_loads (r : Link) (kind : Nat) (j : Job) (k : Bool) :
    (m.hold r kind j k).loads = m.loads := rfl
@[simp] theorem Ml.hold_position (r : Link) (kind : Nat) (j : Job) (k : Bool) :
    (m.hold r kind j k).position = m.position := rfl
@[simp] theorem Ml.hold_reader (r : Link) (kind : Nat) (j : Job) (k : Bool) :
    (m.hold r kind j k).reader = m.reader := rfl
@[simp] theorem Ml.hold_lookOwed (r : Link) (kind : Nat) (j : Job) (k : Bool) :
    (m.hold r kind j k).lookOwed = m.lookOwed := rfl
@[simp] theorem Ml.hold_pollInterval (r : Link) (kind : Nat) (j : Job) (k : Bool) :
    (m.hold r kind j k).pollInterval = m.pollInterval := rfl
@[simp] theorem Ml.hold_pollStart (r : Link) (kind : Nat) (j : Job) (k : Bool) :
    (m.hold r kind j k).pollStart = m.pollStart := rfl
@[simp] theorem Ml.hold_freeHead (r : Link) (kind : Nat) (j : Job) (k : Bool) :
    (m.hold r kind j k).freeHead = m.freeHead := rfl
@[simp] theorem Ml.hold_nextLink (r : Link) (kind : Nat) (j : Job) (k : Bool) :
    (m.hold r kind j k).nextLink = m.nextLink := rfl
@[simp] theorem Ml.hold_anchor (r : Link) (kind : Nat) (j : Job) (k : Bool) :
    (m.hold r kind j k).anchor = m.anchor := rfl
@[simp] theorem Ml.hold_queue (r : Link) (kind : Nat) (j : Job) (k : Bool) :
    (m.hold r kind j k).queue = m.queue := rfl
@[simp] theorem Ml.hold_headWanted (r : Link) (kind : Nat) (j : Job) (k : Bool) :
    (m.hold r kind j k).headWanted = m.headWanted := rfl
@[simp] theorem Ml.hold_lost (r : Link) (kind : Nat) (j : Job) (k : Bool) :
    (m.hold r kind j k).lost = m.lost := rfl
@[simp] theorem Ml.hold_statusCount (r : Link) (kind : Nat) (j : Job) (k : Bool) :
    (m.hold r kind j k).statusCount = m.statusCount := rfl
@[simp] theorem Ml.hold_nextStatus (r : Link) (kind : Nat) (j : Job) (k : Bool) :
    (m.hold r kind j k).nextStatus = m.nextStatus := rfl
@[simp] theorem Ml.hold_writes (r : Link) (kind : Nat) (j : Job) (k : Bool) :
    (m.hold r kind j k).writes = m.writes := rfl
@[simp] theorem Ml.freeSlot_part (u : ReadUse) : (m.freeSlot u).part = m.part := rfl
@[simp] theorem Ml.freeSlot_run (u : ReadUse) : (m.freeSlot u).run = m.run := rfl
@[simp] theorem Ml.freeSlot_root (u : ReadUse) : (m.freeSlot u).root = m.root := rfl
@[simp] theorem Ml.freeSlot_cause (u : ReadUse) : (m.freeSlot u).cause = m.cause := rfl
@[simp] theorem Ml.freeSlot_mask (u : ReadUse) : (m.freeSlot u).mask = m.mask := rfl
@[simp] theorem Ml.freeSlot_phase (u : ReadUse) : (m.freeSlot u).phase = m.phase := rfl
@[simp] theorem Ml.freeSlot_abandoned (u : ReadUse) : (m.freeSlot u).abandoned = m.abandoned := rfl
@[simp] theorem Ml.freeSlot_setup (u : ReadUse) : (m.freeSlot u).setup = m.setup := rfl
@[simp] theorem Ml.freeSlot_windows (u : ReadUse) : (m.freeSlot u).windows = m.windows := rfl
@[simp] theorem Ml.freeSlot_lastFault (u : ReadUse) : (m.freeSlot u).lastFault = m.lastFault := rfl
@[simp] theorem Ml.freeSlot_loads (u : ReadUse) : (m.freeSlot u).loads = m.loads := rfl
@[simp] theorem Ml.freeSlot_position (u : ReadUse) : (m.freeSlot u).position = m.position := rfl
@[simp] theorem Ml.freeSlot_reader (u : ReadUse) : (m.freeSlot u).reader = m.reader := rfl
@[simp] theorem Ml.freeSlot_lookOwed (u : ReadUse) : (m.freeSlot u).lookOwed = m.lookOwed := rfl
@[simp] theorem Ml.freeSlot_pollInterval (u : ReadUse) :
    (m.freeSlot u).pollInterval = m.pollInterval := rfl
@[simp] theorem Ml.freeSlot_pollStart (u : ReadUse) : (m.freeSlot u).pollStart = m.pollStart := rfl
@[simp] theorem Ml.freeSlot_inflight (u : ReadUse) : (m.freeSlot u).inflight = m.inflight := rfl
@[simp] theorem Ml.freeSlot_freeHead (u : ReadUse) : (m.freeSlot u).freeHead = m.freeHead := rfl
@[simp] theorem Ml.freeSlot_nextLink (u : ReadUse) : (m.freeSlot u).nextLink = m.nextLink := rfl
@[simp] theorem Ml.freeSlot_anchor (u : ReadUse) : (m.freeSlot u).anchor = m.anchor := rfl
@[simp] theorem Ml.freeSlot_queue (u : ReadUse) : (m.freeSlot u).queue = m.queue := rfl
@[simp] theorem Ml.freeSlot_headWanted (u : ReadUse) : (m.freeSlot u).headWanted = m.headWanted := rfl
@[simp] theorem Ml.freeSlot_lost (u : ReadUse) : (m.freeSlot u).lost = m.lost := rfl
@[simp] theorem Ml.freeSlot_statusCount (u : ReadUse) : (m.freeSlot u).statusCount = m.statusCount := rfl
@[simp] theorem Ml.freeSlot_nextStatus (u : ReadUse) : (m.freeSlot u).nextStatus = m.nextStatus := rfl
@[simp] theorem Ml.freeSlot_writes (u : ReadUse) : (m.freeSlot u).writes = m.writes := rfl
@[simp] theorem Ml.issue_part (u : ReadUse) (addr len : Nat) (l : Link) :
    (m.issue u addr len l).part = m.part := rfl
@[simp] theorem Ml.issue_run (u : ReadUse) (addr len : Nat) (l : Link) :
    (m.issue u addr len l).run = m.run := rfl
@[simp] theorem Ml.issue_root (u : ReadUse) (addr len : Nat) (l : Link) :
    (m.issue u addr len l).root = m.root := rfl
@[simp] theorem Ml.issue_cause (u : ReadUse) (addr len : Nat) (l : Link) :
    (m.issue u addr len l).cause = m.cause := rfl
@[simp] theorem Ml.issue_mask (u : ReadUse) (addr len : Nat) (l : Link) :
    (m.issue u addr len l).mask = m.mask := rfl
@[simp] theorem Ml.issue_phase (u : ReadUse) (addr len : Nat) (l : Link) :
    (m.issue u addr len l).phase = m.phase := rfl
@[simp] theorem Ml.issue_abandoned (u : ReadUse) (addr len : Nat) (l : Link) :
    (m.issue u addr len l).abandoned = m.abandoned := rfl
@[simp] theorem Ml.issue_setup (u : ReadUse) (addr len : Nat) (l : Link) :
    (m.issue u addr len l).setup = m.setup := rfl
@[simp] theorem Ml.issue_windows (u : ReadUse) (addr len : Nat) (l : Link) :
    (m.issue u addr len l).windows = m.windows := rfl
@[simp] theorem Ml.issue_lastFault (u : ReadUse) (addr len : Nat) (l : Link) :
    (m.issue u addr len l).lastFault = m.lastFault := rfl
@[simp] theorem Ml.issue_loads (u : ReadUse) (addr len : Nat) (l : Link) :
    (m.issue u addr len l).loads = m.loads := rfl
@[simp] theorem Ml.issue_position (u : ReadUse) (addr len : Nat) (l : Link) :
    (m.issue u addr len l).position = m.position := rfl
@[simp] theorem Ml.issue_reader (u : ReadUse) (addr len : Nat) (l : Link) :
    (m.issue u addr len l).reader = m.reader := rfl
@[simp] theorem Ml.issue_lookOwed (u : ReadUse) (addr len : Nat) (l : Link) :
    (m.issue u addr len l).lookOwed = m.lookOwed := rfl
@[simp] theorem Ml.issue_pollInterval (u : ReadUse) (addr len : Nat) (l : Link) :
    (m.issue u addr len l).pollInterval = m.pollInterval := rfl
@[simp] theorem Ml.issue_pollStart (u : ReadUse) (addr len : Nat) (l : Link) :
    (m.issue u addr len l).pollStart = m.pollStart := rfl
@[simp] theorem Ml.issue_inflight (u : ReadUse) (addr len : Nat) (l : Link) :
    (m.issue u addr len l).inflight = m.inflight := rfl
@[simp] theorem Ml.issue_freeHead (u : ReadUse) (addr len : Nat) (l : Link) :
    (m.issue u addr len l).freeHead = m.freeHead := rfl
@[simp] theorem Ml.issue_nextLink (u : ReadUse) (addr len : Nat) (l : Link) :
    (m.issue u addr len l).nextLink = m.nextLink := rfl
@[simp] theorem Ml.issue_anchor (u : ReadUse) (addr len : Nat) (l : Link) :
    (m.issue u addr len l).anchor = m.anchor := rfl
@[simp] theorem Ml.issue_queue (u : ReadUse) (addr len : Nat) (l : Link) :
    (m.issue u addr len l).queue = m.queue := rfl
@[simp] theorem Ml.issue_headWanted (u : ReadUse) (addr len : Nat) (l : Link) :
    (m.issue u addr len l).headWanted = m.headWanted := rfl
@[simp] theorem Ml.issue_lost (u : ReadUse) (addr len : Nat) (l : Link) :
    (m.issue u addr len l).lost = m.lost := rfl
@[simp] theorem Ml.issue_statusCount (u : ReadUse) (addr len : Nat) (l : Link) :
    (m.issue u addr len l).statusCount = m.statusCount := rfl
@[simp] theorem Ml.issue_nextStatus (u : ReadUse) (addr len : Nat) (l : Link) :
    (m.issue u addr len l).nextStatus = m.nextStatus := rfl
@[simp] theorem Ml.issue_writes (u : ReadUse) (addr len : Nat) (l : Link) :
    (m.issue u addr len l).writes = m.writes := rfl
@[simp] theorem Ml.recordFault_part (l : Link) (b : Block) : (m.recordFault l b).part = m.part := rfl
@[simp] theorem Ml.recordFault_run (l : Link) (b : Block) : (m.recordFault l b).run = m.run := rfl
@[simp] theorem Ml.recordFault_root (l : Link) (b : Block) : (m.recordFault l b).root = m.root := rfl
@[simp] theorem Ml.recordFault_mask (l : Link) (b : Block) : (m.recordFault l b).mask = m.mask := rfl
@[simp] theorem Ml.recordFault_phase (l : Link) (b : Block) : (m.recordFault l b).phase = m.phase := rfl
@[simp] theorem Ml.recordFault_abandoned (l : Link) (b : Block) :
    (m.recordFault l b).abandoned = m.abandoned := rfl
@[simp] theorem Ml.recordFault_setup (l : Link) (b : Block) : (m.recordFault l b).setup = m.setup := rfl
@[simp] theorem Ml.recordFault_windows (l : Link) (b : Block) :
    (m.recordFault l b).windows = m.windows := rfl
@[simp] theorem Ml.recordFault_slots (l : Link) (b : Block) : (m.recordFault l b).slots = m.slots := rfl
@[simp] theorem Ml.recordFault_loads (l : Link) (b : Block) : (m.recordFault l b).loads = m.loads := rfl
@[simp] theorem Ml.recordFault_position (l : Link) (b : Block) :
    (m.recordFault l b).position = m.position := rfl
@[simp] theorem Ml.recordFault_reader (l : Link) (b : Block) :
    (m.recordFault l b).reader = m.reader := rfl
@[simp] theorem Ml.recordFault_lookOwed (l : Link) (b : Block) :
    (m.recordFault l b).lookOwed = m.lookOwed := rfl
@[simp] theorem Ml.recordFault_pollInterval (l : Link) (b : Block) :
    (m.recordFault l b).pollInterval = m.pollInterval := rfl
@[simp] theorem Ml.recordFault_pollStart (l : Link) (b : Block) :
    (m.recordFault l b).pollStart = m.pollStart := rfl
@[simp] theorem Ml.recordFault_inflight (l : Link) (b : Block) :
    (m.recordFault l b).inflight = m.inflight := rfl
@[simp] theorem Ml.recordFault_freeHead (l : Link) (b : Block) :
    (m.recordFault l b).freeHead = m.freeHead := rfl
@[simp] theorem Ml.recordFault_nextLink (l : Link) (b : Block) :
    (m.recordFault l b).nextLink = m.nextLink := rfl
@[simp] theorem Ml.recordFault_anchor (l : Link) (b : Block) :
    (m.recordFault l b).anchor = m.anchor := rfl
@[simp] theorem Ml.recordFault_queue (l : Link) (b : Block) : (m.recordFault l b).queue = m.queue := rfl
@[simp] theorem Ml.recordFault_headWanted (l : Link) (b : Block) :
    (m.recordFault l b).headWanted = m.headWanted := rfl
@[simp] theorem Ml.recordFault_lost (l : Link) (b : Block) : (m.recordFault l b).lost = m.lost := rfl
@[simp] theorem Ml.recordFault_statusCount (l : Link) (b : Block) :
    (m.recordFault l b).statusCount = m.statusCount := rfl
@[simp] theorem Ml.recordFault_nextStatus (l : Link) (b : Block) :
    (m.recordFault l b).nextStatus = m.nextStatus := rfl
@[simp] theorem Ml.recordFault_writes (l : Link) (b : Block) :
    (m.recordFault l b).writes = m.writes := rfl
@[simp] theorem Ml.lose_part (cls : Nat) : (m.lose cls).part = m.part := rfl
@[simp] theorem Ml.lose_run (cls : Nat) : (m.lose cls).run = m.run := rfl
@[simp] theorem Ml.lose_root (cls : Nat) : (m.lose cls).root = m.root := rfl
@[simp] theorem Ml.lose_mask (cls : Nat) : (m.lose cls).mask = m.mask := rfl
@[simp] theorem Ml.lose_phase (cls : Nat) : (m.lose cls).phase = m.phase := rfl
@[simp] theorem Ml.lose_abandoned (cls : Nat) : (m.lose cls).abandoned = m.abandoned := rfl
@[simp] theorem Ml.lose_setup (cls : Nat) : (m.lose cls).setup = m.setup := rfl
@[simp] theorem Ml.lose_windows (cls : Nat) : (m.lose cls).windows = m.windows := rfl
@[simp] theorem Ml.lose_lastFault (cls : Nat) : (m.lose cls).lastFault = m.lastFault := rfl
@[simp] theorem Ml.lose_slots (cls : Nat) : (m.lose cls).slots = m.slots := rfl
@[simp] theorem Ml.lose_loads (cls : Nat) : (m.lose cls).loads = m.loads := rfl
@[simp] theorem Ml.lose_position (cls : Nat) : (m.lose cls).position = m.position := rfl
@[simp] theorem Ml.lose_reader (cls : Nat) : (m.lose cls).reader = m.reader := rfl
@[simp] theorem Ml.lose_lookOwed (cls : Nat) : (m.lose cls).lookOwed = m.lookOwed := rfl
@[simp] theorem Ml.lose_pollInterval (cls : Nat) : (m.lose cls).pollInterval = m.pollInterval := rfl
@[simp] theorem Ml.lose_pollStart (cls : Nat) : (m.lose cls).pollStart = m.pollStart := rfl
@[simp] theorem Ml.lose_inflight (cls : Nat) : (m.lose cls).inflight = m.inflight := rfl
@[simp] theorem Ml.lose_freeHead (cls : Nat) : (m.lose cls).freeHead = m.freeHead := rfl
@[simp] theorem Ml.lose_nextLink (cls : Nat) : (m.lose cls).nextLink = m.nextLink := rfl
@[simp] theorem Ml.lose_anchor (cls : Nat) : (m.lose cls).anchor = m.anchor := rfl
@[simp] theorem Ml.lose_queue (cls : Nat) : (m.lose cls).queue = m.queue := rfl
@[simp] theorem Ml.lose_headWanted (cls : Nat) : (m.lose cls).headWanted = m.headWanted := rfl
@[simp] theorem Ml.lose_statusCount (cls : Nat) : (m.lose cls).statusCount = m.statusCount := rfl
@[simp] theorem Ml.lose_nextStatus (cls : Nat) : (m.lose cls).nextStatus = m.nextStatus := rfl
@[simp] theorem Ml.lose_writes (cls : Nat) : (m.lose cls).writes = m.writes := rfl

@[simp] theorem Ml.write_writes (runs : List (Nat × List Byte)) :
    (m.write runs).writes = m.writes ++ [⟨runs⟩] := rfl
@[simp] theorem Ml.setCause_cause (bit : Nat) : (m.setCause bit).cause = m.cause ||| BitVec.twoPow 32 bit := rfl

end

/-! ### Access checks look at the window cache alone -/

theorem Ml.allows_congr {m n : Ml} (h : m.windows = n.windows) (l : Link) (len : Nat) (w : Bool) :
    m.allows l len w = n.allows l len w := by simp [Ml.allows, Ml.window, h]

theorem Ml.address_congr {m n : Ml} (h : m.windows = n.windows) (l : Link) : m.address l = n.address l := by
  simp [Ml.address, Ml.window, h]

@[simp] theorem Ml.allows_write (m : Ml) (runs : List (Nat × List Byte)) (l : Link) (len : Nat) (w : Bool) :
    (m.write runs).allows l len w = m.allows l len w := rfl

/-! ### Finishing a record -/

/-- A finish whose spans can be written makes the two writes of 11, R189, and nothing else. -/
theorem State.finish_eq_outcome (s : State) (r : Link) (res : Result) (why : Reason) (k : Bool)
    (h9 : s.ml.allows (linkPlus r 9) 15 true = true) (h8 : s.ml.allows (linkPlus r 8) 1 true = true) :
    s.finish r res why k = s.outcome r res why k := by
  simp [State.finish, Ml.finishRecord, h9, h8, State.outcome, finishWrites, Ml.write]

/-- The spans of a finish are checked against the window cache of the moment. -/
theorem State.Ready.finish {s : State} {r : Link} (h : s.Ready r) (t : State)
    (hw : t.ml.windows = s.ml.windows) (res : Result) (why : Reason) (k : Bool) :
    t.finish r res why k = t.outcome r res why k :=
  t.finish_eq_outcome r res why k ((Ml.allows_congr hw _ _ _).trans h.body)
    ((Ml.allows_congr hw _ _ _).trans h.last)

/-! ### Notices -/

theorem State.settle_quiet {s : State} (h : s.notices = []) : s.settle = s := by
  simp [State.settle, State.settleN, h]

/-- A notice for the host changes nothing else (01, R15). -/
theorem State.settle_host {s : State} {t : Target} {c : FadeCause} (h : s.notices = [.fade .host t c]) :
    s.settle = { s with notices := [] } := by
  simp [State.settle, State.settleN, h, State.notice]

/-! ### The hand-over of a command -/

theorem Ml.afterTake_idle {m : Ml} (hn : m.inflight.length < 8)
    (hl : m.reader = .waiting → m.lookOwed = false) : m.afterTake = m := by
  have h : ¬ (8 ≤ m.inflight.length) := by omega
  by_cases hr : m.reader = .waiting
  · simp [Ml.afterTake, Config.inflightCapacity, h, Ml.beginLook, hr, hl hr]
  · have : (m.reader == Reader.waiting) = false := by simpa using hr
    simp [Ml.afterTake, Config.inflightCapacity, h, Ml.beginLook, this]

theorem State.Ready.takes {s : State} {r : Link} (h : s.Ready r) : s.takes = true := by
  simp [State.takes, State.running, h.running, h.room, Config.inflightCapacity]

/-- A command whose effect is `t`, without notices, and whose record is finished (11, R192). -/
theorem State.Ready.handed {s : State} {r : Link} (h : s.Ready r) {f : State → State} {t : State}
    {res : Result} {why : Reason} {k : Bool} (hf : f s = t.outcome r res why k) (hq : t.notices = [])
    (hi : t.ml.inflight = s.ml.inflight) (hr : t.ml.reader = s.ml.reader)
    (hl : t.ml.lookOwed = s.ml.lookOwed) : s.handed f = t.outcome r res why k := by
  have hset : (t.outcome r res why k).settle = t.outcome r res why k := State.settle_quiet (by simpa using hq)
  have ha : (t.outcome r res why k).ml.afterTake = (t.outcome r res why k).ml := by
    apply Ml.afterTake_idle
    · show t.ml.inflight.length < 8
      rw [hi]; exact h.room
    · show t.ml.reader = .waiting → t.ml.lookOwed = false
      rw [hr, hl]; exact h.noLook
  simp only [State.handed, hf, hset, ha]

/-! ### Raising a report -/

theorem Ml.headReadOut_congr {m n : Ml} (h : m.slots = n.slots) : m.headReadOut = n.headReadOut := by
  simp [Ml.headReadOut, h]

/-- With a place in the queue and the next link unknown, a report waits (11, R196). -/
theorem Ml.enqueue_waits {m : Ml} (hq : m.queue.length < 64) (hu : m.nextLink = .unknown) (r : Report) :
    m.enqueue r = { m with queue := m.queue ++ [r], headWanted := m.headWanted || !m.headReadOut } := by
  rcases hs : m.queue ++ [r] with _ | ⟨x, xs⟩
  · simp at hs
  · cases hh : m.slots.any (·.use == .reportHead) <;>
      simp [Ml.enqueue, Config.reportCapacity, Nat.not_le.2 hq, hs, Ml.serve, hu, Ml.headReadOut, hh]

/-- With an empty queue and a known next link, a report takes the head slot at once (11, R196). -/
theorem Ml.enqueue_known {m : Ml} {n : Link} (hq : m.queue = []) (hn : m.nextLink = .known n) (r : Report) :
    m.enqueue r = Ml.serve 64 (m.takeSlot n r) := by
  have one : ∀ (k : Nat) (q : Ml), q.queue = [r] → q.nextLink = .known n →
      Ml.serve (k + 1) q = Ml.serve k (({ q with queue := [] } : Ml).takeSlot n r) := by
    intro k q h1 h2; simp only [Ml.serve, h1, h2]
  have e : ({ m with queue := [] } : Ml) = m := by rw [← hq]
  unfold Ml.enqueue
  rw [if_neg (by simp [hq, Config.reportCapacity])]
  exact (one 64 { m with queue := m.queue ++ [r] } (by simp [hq]) hn).trans
    (congrArg (fun x : Ml => Ml.serve 64 (x.takeSlot n r)) e)

/-- Served with nothing in the queue, the report writer does nothing. -/
theorem Ml.serve_empty {m : Ml} (hq : m.queue = []) : ∀ n, Ml.serve n m = m
  | 0 => rfl
  | _ + 1 => by simp [Ml.serve, hq]

/-- A report raised while RUNNING, with a place in the queue and the next link unknown, waits (11, R196). -/
theorem State.report_posted {s : State} (h : s.Reports 1) (cls kind : Nat) (a b c : Word) :
    s.report cls kind a b c = s.posted cls kind a b c := by
  obtain ⟨hp, hq, hu⟩ := h
  simp [State.report, Ml.post, hp, Ml.enqueue_waits (Nat.lt_of_succ_le hq) hu, State.posted]

/-- A window fault of any block but REPORT, in any state of the part (10, R185; 11, R197). -/
theorem State.windowFault_waits {s : State} (hq : s.ml.queue.length < 64) (hu : s.ml.nextLink = .unknown)
    (l : Link) (b : Block) : s.windowFault l b = s.faulted l b :=
  congrArg (fun m : Ml => { s with ml := m }) (Ml.enqueue_waits (m := s.ml.recordFault l b) hq hu _)

/-- A window fault of any block but REPORT, while RUNNING (10, R185). -/
theorem State.windowFault_faulted {s : State} (h : s.Reports 1) (l : Link) (b : Block) :
    s.windowFault l b = s.faulted l b := State.windowFault_waits (Nat.lt_of_succ_le h.room) h.unknown l b

/-! ### Grants -/

section
variable {s : State}

/-- With no grant due, what a command came to stands. -/
theorem State.granted_of_none (h : s.grantDue = none) : s.granted = s := by
  simp [State.granted, State.grantN, h]

/-- With a grant due, its user is served and the arbiter goes on. -/
theorem State.granted_of_some {u : User} (h : s.grantDue = some u) :
    s.granted = State.grantN 4095 (s.serveUser u).settle := by
  rw [State.granted, State.grantN, h]

/-- With eight reads outstanding no slot is granted (10, R187). -/
theorem State.grantDue_full (h : 8 ≤ s.ml.slots.length) : s.grantDue = none := by
  simp [State.grantDue, Config.readCapacity, Nat.not_lt.2 h]

/-- STOPPED and STOPPING grant nothing (10, R188). -/
theorem State.grantDue_still (h : s.ml.part = .stopped ∨ s.ml.part = .stopping) : s.grantDue = none := by
  rcases h with h | h <;> simp [State.grantDue, State.nextUser, State.ownWaits, State.running, h]

/-- A start asks for one read at a time (10, R182, R187). -/
theorem State.grantDue_starting (h : s.ml.part = .starting) (ho : s.ml.slots.any (fun o => isOwnRead o.use) = true) :
    s.grantDue = none := by
  simp [State.grantDue, State.nextUser, State.ownWaits, State.running, h, ho]

end

end Sys2Proof.Machine
end

