-- ==== Sys2Proof/Laws/Tables.lean ====
section
/-! SUPPORT. Reading a table after a write to it: the same entry gives what was written, every other entry what
stood there before. Then the same for each table of State, and for the level store (01, R2). -/

namespace Sys2Proof.Machine

theorem tget_tset_same {α : Type} {n : Nat} (t : Vector α n) {i : Nat} (x d : α) (h : i < n) :
    tget (tset t i x) i d = x := by simp [tget, tset, h]

theorem tget_tset_other {α : Type} {n : Nat} (t : Vector α n) {i j : Nat} (x d : α) (h : i ≠ j) :
    tget (tset t i x) j d = tget t j d := by simp [tget, tset, Vector.getElem?_setIfInBounds_ne h]

theorem tset_tset {α : Type} {n : Nat} (t : Vector α n) (i : Nat) (x y : α) :
    tset (tset t i x) i y = tset t i y := by
  apply Vector.ext
  intro j hj
  simp only [tset, Vector.getElem_setIfInBounds]
  split <;> rfl

/-! ### The tables of State -/

section
variable (s : State)

theorem State.voice_setVoice {v : Nat} (x : Voice) (h1 : 1 ≤ v) (h2 : v ≤ 64) : (s.setVoice v x).voice v = x :=
  tget_tset_same _ _ _ (by omega)

theorem State.voice_setVoice_other {v u : Nat} (x : Voice) (hv : 1 ≤ v) (hu : 1 ≤ u) (h : v ≠ u) :
    (s.setVoice v x).voice u = s.voice u := tget_tset_other _ _ _ (by omega)

theorem State.setVoice_setVoice (v : Nat) (x y : Voice) : (s.setVoice v x).setVoice v y = s.setVoice v y := by
  simp only [State.setVoice, tset_tset]

theorem State.bus_setBus {b : Nat} (x : Bus) (h : b < 25) : (s.setBus b x).bus b = x :=
  tget_tset_same _ _ _ h

theorem State.bus_setBus_other {b c : Nat} (x : Bus) (h : b ≠ c) : (s.setBus b x).bus c = s.bus c :=
  tget_tset_other _ _ _ h

theorem State.mix_setMix {m : Nat} (x : Mix) (h1 : 1 ≤ m) (h2 : m ≤ 16) : (s.setMix m x).mix m = x :=
  tget_tset_same _ _ _ (by omega)

theorem State.mix_setMix_other {m n : Nat} (x : Mix) (hm : 1 ≤ m) (hn : 1 ≤ n) (h : m ≠ n) :
    (s.setMix m x).mix n = s.mix n := tget_tset_other _ _ _ (by omega)

theorem State.zone_setZone {z : Nat} (x : Zone) (h1 : 1 ≤ z) (h2 : z ≤ 32) : (s.setZone z x).zone z = x :=
  tget_tset_same _ _ _ (by omega)

theorem State.zone_setZone_other {z y : Nat} (x : Zone) (hz : 1 ≤ z) (hy : 1 ≤ y) (h : z ≠ y) :
    (s.setZone z x).zone y = s.zone y := tget_tset_other _ _ _ (by omega)

theorem State.input_setInput {c : Nat} (x : Input) (h1 : 1 ≤ c) (h2 : c ≤ 24) : (s.setInput c x).input c = x :=
  tget_tset_same _ _ _ (by omega)

theorem State.input_setInput_other {c e : Nat} (x : Input) (hc : 1 ≤ c) (he : 1 ≤ e) (h : c ≠ e) :
    (s.setInput c x).input e = s.input e := tget_tset_other _ _ _ (by omega)

theorem State.output_setOutput {k : Nat} (x : Output) (h1 : 1 ≤ k) (h2 : k ≤ 16) :
    (s.setOutput k x).output k = x := tget_tset_same _ _ _ (by omega)

end

theorem mem_oneTo {n i : Nat} : i ∈ oneTo n ↔ 1 ≤ i ∧ i ≤ n := by
  simp only [oneTo, List.mem_map, List.mem_range]
  constructor
  · rintro ⟨a, ha, rfl⟩; omega
  · rintro ⟨h1, h2⟩; exact ⟨i - 1, by omega, by omega⟩

theorem oneTo_nodup (n : Nat) : (oneTo n).Nodup :=
  List.Nodup.map (fun _ _ h => Nat.succ.inj h) List.nodup_range

/-- Each input is replaced by a value that depends on what stood there (08, R159). -/
theorem State.input_foldl (f : State → Nat → Input)
    (hf : ∀ (t : State) (c e : Nat) (x : Input), 1 ≤ c → 1 ≤ e → c ≠ e → f (t.setInput c x) e = f t e)
    (l : List Nat) (hl : l.Nodup) (h1 : ∀ c ∈ l, 1 ≤ c ∧ c ≤ 24) (s : State) (e : Nat) (he : 1 ≤ e) :
    (l.foldl (fun s c => s.setInput c (f s c)) s).input e = if e ∈ l then f s e else s.input e := by
  induction l generalizing s with
  | nil => simp
  | cons c cs ih =>
    have hc := h1 c (by simp)
    rw [List.foldl_cons, ih (List.nodup_cons.1 hl).2 (fun x hx => h1 x (by simp [hx]))]
    by_cases hec : e = c
    · subst hec
      simp [(List.nodup_cons.1 hl).1, s.input_setInput _ hc.1 hc.2]
    · simp [hec, hf s c e _ hc.1 he (Ne.symm hec), s.input_setInput_other _ hc.1 he (Ne.symm hec)]

/-! ### Contributions and the level store -/

theorem findContrib_map (l : List Contrib) (c e : Nat) (f : Contrib → Contrib)
    (hf : ∀ x, (f x).source = x.source) :
    findContrib (Machine.mapContrib l c f) e =
      (findContrib l e).map (fun x => if x.source == c then f x else x) := by
  induction l with
  | nil => rfl
  | cons x xs ih =>
    have hs : (if x.source == c then f x else x).source = x.source := by split <;> simp [hf]
    simp only [findContrib, Machine.mapContrib, List.map_cons, List.find?_cons, hs] at ih ⊢
    split
    · rfl
    · exact ih

theorem findContrib_source {l : List Contrib} {c : Nat} {x : Contrib} (h : findContrib l c = some x) :
    x.source = c := by
  have := List.find?_some h
  simpa using this

/-- A contribution keeps its place under a change that keeps its source. -/
theorem State.contrib_mapContrib (s : State) {b : Nat} (c : Nat) (f : Contrib → Contrib)
    (hf : ∀ x, (f x).source = x.source) (hb : b < 25) (e : Nat) :
    (s.mapContrib b c f).contrib b e =
      (s.contrib b e).map (fun x => if x.source == c then f x else x) := by
  simp only [State.contrib, State.mapContrib, State.bus_setBus _ _ hb]
  exact findContrib_map _ _ _ _ hf

theorem State.contrib_mapContrib_other (s : State) {b d : Nat} (c : Nat) (f : Contrib → Contrib)
    (h : b ≠ d) (e : Nat) : (s.mapContrib b c f).contrib d e = s.contrib d e := by
  simp only [State.contrib, State.mapContrib, State.bus_setBus_other _ _ h]

/-- A value written into the store is read back (01, R7). -/
theorem State.levelOf_putLevel (s : State) (t : Target) (v : Level) (h : t.wf = true)
    (hc : ∀ b c, t = .crosspoint b c → (s.contrib b c).isSome = true) : (s.putLevel t v).levelOf t = v := by
  cases t with
  | crosspoint b c =>
    obtain ⟨x, hx⟩ := Option.isSome_iff_exists.1 (hc b c rfl)
    have hb : b < 25 := by simp [Target.wf] at h; omega
    simp [State.levelOf, State.putLevel, State.contrib_mapContrib, hb, hx, findContrib_source hx]
  | channel c => exact tget_tset_same _ _ _ (by simpa [Target.wf] using h)
  | master b => exact tget_tset_same _ _ _ (by simpa [Target.wf] using h)
  | zoneLevel z => exact tget_tset_same _ _ _ (by simp [Target.wf] at h; omega)
  | duck z => exact tget_tset_same _ _ _ (by simp [Target.wf] at h; omega)
  | busInterlock b => exact tget_tset_same _ _ _ (by simpa [Target.wf] using h)
  | zoneInterlock z => exact tget_tset_same _ _ _ (by simp [Target.wf] at h; omega)
  | dim m => exact tget_tset_same _ _ _ (by simp [Target.wf] at h; omega)

/-- A write to one target leaves every other target's value alone (01, R13). -/
theorem State.levelOf_putLevel_other (s : State) (t u : Target) (v : Level) (ht : t.wf = true)
    (hu : u.wf = true) (h : t ≠ u) : (s.putLevel t v).levelOf u = s.levelOf u := by
  cases t with
  | crosspoint b c =>
    cases u with
    | crosspoint d e =>
      by_cases hbd : b = d
      · subst hbd
        have hce : c ≠ e := fun hh => h (by rw [hh])
        have hb : b < 25 := by simp [Target.wf] at ht; omega
        cases hx : s.contrib b e with
        | none => simp [State.levelOf, State.putLevel, State.contrib_mapContrib, hb, hx]
        | some x =>
          have hs := findContrib_source hx
          have hne : ¬ x.source = c := by omega
          simp [State.levelOf, State.putLevel, State.contrib_mapContrib, hb, hx, hne]
      · simp [State.levelOf, State.putLevel, State.contrib_mapContrib_other _ _ _ hbd]
    | _ => rfl
  | channel c =>
    cases u with
    | channel d => exact tget_tset_other _ _ _ fun hh => h (by rw [hh])
    | _ => rfl
  | master b =>
    cases u with
    | master d => exact tget_tset_other _ _ _ fun hh => h (by rw [hh])
    | _ => rfl
  | zoneLevel z =>
    cases u with
    | zoneLevel y =>
      exact tget_tset_other _ _ _ (by simp [Target.wf] at ht hu; intro hh; exact h (by congr 1; omega))
    | _ => rfl
  | duck z =>
    cases u with
    | duck y =>
      exact tget_tset_other _ _ _ (by simp [Target.wf] at ht hu; intro hh; exact h (by congr 1; omega))
    | _ => rfl
  | busInterlock b =>
    cases u with
    | busInterlock d => exact tget_tset_other _ _ _ fun hh => h (by rw [hh])
    | _ => rfl
  | zoneInterlock z =>
    cases u with
    | zoneInterlock y =>
      exact tget_tset_other _ _ _ (by simp [Target.wf] at ht hu; intro hh; exact h (by congr 1; omega))
    | _ => rfl
  | dim m =>
    cases u with
    | dim n =>
      exact tget_tset_other _ _ _ (by simp [Target.wf] at ht hu; intro hh; exact h (by congr 1; omega))
    | _ => rfl

end Sys2Proof.Machine
end

