-- ==== Sys2Proof/Laws/Keeps.lean ====
section
/-! SUPPORT. What the operations within a command keep: CAUSE bits stay set, and no capacity is exceeded. The
relation is reflexive and transitive, so that each operation's lemma is the chain of those it is made of. -/

namespace Sys2Proof.Machine

/-- From `s` to `t`: CAUSE bits stay, the tables stay within their capacities, at most `a` reads more are
outstanding and at most `b` commands more are in flight. -/
structure Adds (a b : Nat) (s t : State) : Prop where
  cause : s.CauseStays t
  reads : t.ml.slots.length ≤ s.ml.slots.length + a
  reports : s.ml.queue.length ≤ 64 → t.ml.queue.length ≤ 64
  inflight : t.ml.inflight.length ≤ s.ml.inflight.length + b
  fades : s.lv.fades.length ≤ 1024 → t.lv.fades.length ≤ 1024
  runs : s.ce.runs.length ≤ 8 → t.ce.runs.length ≤ 8
  actions : s.ce.queue.length ≤ 128 → t.ce.queue.length ≤ 128
  recalls : s.fb.recalls.length ≤ 16 → t.fb.recalls.length ≤ 16
  pages : s.rc.pages.length ≤ 16 → t.rc.pages.length ≤ 16
  routes : s.cu.routes.length ≤ 20 → t.cu.routes.length ≤ 20

abbrev Keeps (s t : State) : Prop := Adds 0 0 s t

theorem Adds.trans {a b c d : Nat} {s t u : State} (h : Adds a b s t) (k : Adds c d t u) :
    Adds (a + c) (b + d) s u where
  cause i hi := k.cause i (h.cause i hi)
  reads := by have := h.reads; have := k.reads; omega
  reports x := k.reports (h.reports x)
  inflight := by have := h.inflight; have := k.inflight; omega
  fades x := k.fades (h.fades x)
  runs x := k.runs (h.runs x)
  actions x := k.actions (h.actions x)
  recalls x := k.recalls (h.recalls x)
  pages x := k.pages (h.pages x)
  routes x := k.routes (h.routes x)

theorem Adds.mono {a b c d : Nat} {s t : State} (h : Adds a b s t) (hc : a ≤ c) (hd : b ≤ d) :
    Adds c d s t :=
  { h with
    reads := by have := h.reads; omega
    inflight := by have := h.inflight; omega }

/-- After one addition, operations that keep. -/
theorem Adds.then {a b : Nat} {s t u : State} (h : Adds a b s t) (k : Keeps t u) : Adds a b s u := h.trans k

theorem Adds.after {a b : Nat} {s t u : State} (h : Keeps s t) (k : Adds a b t u) : Adds a b s u :=
  (h.trans k).mono (by omega) (by omega)

/-- An operation that leaves the memory link and the sizes of the tables as they are. -/
theorem Adds.same {s t : State} (m : t.ml = s.ml) (f : t.lv.fades = s.lv.fades) (r : t.ce.runs = s.ce.runs)
    (q : t.ce.queue = s.ce.queue) (n : t.fb.recalls = s.fb.recalls)
    (p : t.rc.pages.length ≤ s.rc.pages.length) (u : t.cu.routes = s.cu.routes) : Keeps s t where
  cause i hi := by rw [m]; exact hi
  reads := by rw [m]; omega
  reports := by rw [m]; exact id
  inflight := by rw [m]; omega
  fades := by rw [f]; exact id
  runs := by rw [r]; exact id
  actions := by rw [q]; exact id
  recalls := by rw [n]; exact id
  pages h := p.trans h
  routes := by rw [u]; exact id

theorem Adds.refl (s : State) : Keeps s s := .same rfl rfl rfl rfl rfl le_rfl rfl

theorem keeps_foldl {α : Type} {f : State → α → State} (h : ∀ s x, Keeps s (f s x)) (l : List α) (s : State) :
    Keeps s (l.foldl f s) := by
  induction l generalizing s with
  | nil => exact .refl s
  | cons x xs ih => exact (h s x).trans (ih (f s x))

/-! ### The memory link -/

/-- The same on `Ml`, of which the other blocks see nothing else. -/
structure MlAdds (a b : Nat) (m n : Ml) : Prop where
  cause : ∀ i, m.cause.getLsbD i = true → n.cause.getLsbD i = true
  reads : n.slots.length ≤ m.slots.length + a
  reports : m.queue.length ≤ 64 → n.queue.length ≤ 64
  inflight : n.inflight.length ≤ m.inflight.length + b

abbrev MlKeeps (m n : Ml) : Prop := MlAdds 0 0 m n

theorem MlAdds.trans {a b c d : Nat} {m n o : Ml} (h : MlAdds a b m n) (k : MlAdds c d n o) :
    MlAdds (a + c) (b + d) m o where
  cause i hi := k.cause i (h.cause i hi)
  reads := by have := h.reads; have := k.reads; omega
  reports x := k.reports (h.reports x)
  inflight := by have := h.inflight; have := k.inflight; omega

theorem MlAdds.then {a b : Nat} {m n o : Ml} (h : MlAdds a b m n) (k : MlKeeps n o) : MlAdds a b m o := h.trans k

theorem MlAdds.same {m n : Ml} (c : n.cause = m.cause) (s : n.slots.length ≤ m.slots.length)
    (q : n.queue.length ≤ m.queue.length) (f : n.inflight.length ≤ m.inflight.length) : MlKeeps m n where
  cause i hi := by rw [c]; exact hi
  reads := s
  reports := q.trans
  inflight := f

theorem MlAdds.refl (m : Ml) : MlKeeps m m := .same rfl le_rfl le_rfl le_rfl

/-- Further changes that touch neither CAUSE nor the sizes of the tables. -/
theorem MlAdds.thenSame {a b : Nat} {m n o : Ml} (h : MlAdds a b m n) (c : o.cause = n.cause)
    (s : o.slots.length ≤ n.slots.length) (q : o.queue.length ≤ n.queue.length)
    (f : o.inflight.length ≤ n.inflight.length) : MlAdds a b m o := h.then (.same c s q f)

/-- An operation on the memory link alone. -/
theorem Adds.ofMl {a b : Nat} {s t : State} (h : MlAdds a b s.ml t.ml) (f : t.lv.fades = s.lv.fades)
    (r : t.ce.runs = s.ce.runs) (q : t.ce.queue = s.ce.queue) (n : t.fb.recalls = s.fb.recalls)
    (p : t.rc.pages = s.rc.pages) (u : t.cu.routes = s.cu.routes) : Adds a b s t where
  cause := h.cause
  reads := h.reads
  reports := h.reports
  inflight := h.inflight
  fades := by rw [f]; exact id
  runs := by rw [r]; exact id
  actions := by rw [q]; exact id
  recalls := by rw [n]; exact id
  pages := by rw [p]; exact id
  routes := by rw [u]; exact id

theorem Ml.setCause_keeps (m : Ml) (bit : Nat) : MlKeeps m (m.setCause bit) where
  cause i hi := by simp [hi]
  reads := le_rfl
  reports := id
  inflight := le_rfl

theorem Ml.recordFault_keeps (m : Ml) (l : Link) (b : Block) : MlKeeps m (m.recordFault l b) :=
  (m.setCause_keeps causeMemoryFault).thenSame rfl le_rfl le_rfl le_rfl

theorem Ml.lose_keeps (m : Ml) (cls : Nat) : MlKeeps m (m.lose cls) :=
  (m.setCause_keeps causeLost).thenSame rfl le_rfl le_rfl le_rfl

theorem Ml.loseQueue_keeps (m : Ml) : MlKeeps m m.loseQueue := by
  have h : ∀ (l : List Report) (n : Ml), MlKeeps n (l.foldl (fun m r => m.lose r.cls) n) := by
    intro l
    induction l with
    | nil => exact fun n => .refl n
    | cons r rs ih => exact fun n => (n.lose_keeps r.cls).trans (ih _)
  exact (h m.queue m).thenSame rfl le_rfl (Nat.zero_le _) le_rfl

theorem Ml.takeSlot_keeps (m : Ml) (n : Link) (r : Report) : MlKeeps m (m.takeSlot n r) := by
  unfold Ml.takeSlot
  simp only
  split
  · exact (m.recordFault_keeps _ _).trans (Ml.lose_keeps _ _)
  · split
    · exact (m.recordFault_keeps _ _).trans (Ml.lose_keeps _ _)
    · split
      · refine MlAdds.then ?_ (Ml.setCause_keeps _ _)
        exact .same rfl le_rfl le_rfl le_rfl
      · exact .same rfl le_rfl le_rfl le_rfl

theorem Ml.serve_keeps (n : Nat) (m : Ml) : MlKeeps m (Ml.serve n m) := by
  induction n generalizing m with
  | zero => exact .refl m
  | succ n ih =>
    unfold Ml.serve
    split
    · exact .refl m
    · rename_i r rest hq
      split
      · have h : MlKeeps m { m with queue := rest } := .same rfl le_rfl (by simp [hq]) le_rfl
        exact (h.trans (Ml.takeSlot_keeps _ _ _)).trans (ih _)
      · split
        · exact .refl m
        · exact .same rfl le_rfl le_rfl le_rfl

theorem Ml.enqueue_keeps (m : Ml) (r : Report) : MlKeeps m (m.enqueue r) := by
  unfold Ml.enqueue
  split
  · exact m.lose_keeps _
  · rename_i h
    have h64 : m.queue.length < 64 := by simp [Config.reportCapacity] at h; omega
    have k : MlKeeps m { m with queue := m.queue ++ [r] } :=
      { cause := fun _ h => h, reads := le_rfl, inflight := le_rfl
        reports := fun _ => by simp; omega }
    exact k.trans (Ml.serve_keeps _ _)

theorem Ml.post_keeps (m : Ml) (r : Report) : MlKeeps m (m.post r) := by
  unfold Ml.post
  split
  · exact .refl m
  · exact m.enqueue_keeps r

theorem Ml.windowFault_keeps (m : Ml) (now : Nat) (l : Link) (b : Block) :
    MlKeeps m (m.windowFault now l b) := (m.recordFault_keeps l b).trans (Ml.enqueue_keeps _ _)

theorem Ml.beginLook_keeps (m : Ml) : MlKeeps m m.beginLook := by
  unfold Ml.beginLook; split
  · exact .same rfl le_rfl le_rfl le_rfl
  · exact .refl m

theorem Ml.oweLook_keeps (m : Ml) : MlKeeps m m.oweLook := by
  refine MlAdds.then ?_ (Ml.beginLook_keeps _)
  exact .same rfl le_rfl le_rfl le_rfl

theorem Ml.toWaiting_keeps (m : Ml) : MlKeeps m m.toWaiting := by
  refine MlAdds.then ?_ (Ml.beginLook_keeps _)
  exact .same rfl le_rfl le_rfl le_rfl

theorem Ml.slotFreed_keeps (m : Ml) : MlKeeps m m.slotFreed := by
  unfold Ml.slotFreed; split
  · refine MlAdds.then ?_ (Ml.oweLook_keeps _)
    exact .same rfl le_rfl le_rfl le_rfl
  · exact .refl m

theorem Ml.finishRecord_keeps (m : Ml) (now : Nat) (r : Link) (res : Result) (why : Reason) (k : Bool) :
    MlKeeps m (m.finishRecord now r res why k) := by
  unfold Ml.finishRecord; split
  · exact Ml.windowFault_keeps _ _ _ _
  · split
    · exact Ml.windowFault_keeps _ _ _ _
    · exact .same rfl le_rfl le_rfl le_rfl

theorem Ml.finishAll_keeps (now : Nat) (res : Result) (k : Bool) (l : List InFlight) (m : Ml) :
    MlKeeps m (l.foldl (fun m e => m.finishRecord now e.r res .none (e.clamped || k)) m) := by
  induction l generalizing m with
  | nil => exact .refl m
  | cons e es ih => exact (m.finishRecord_keeps _ _ _ _ _).trans (ih _)

theorem Ml.finishJob_keeps (m : Ml) (now : Nat) (j : Job) (res : Result) (k : Bool) :
    MlKeeps m (m.finishJob now j res k) := by
  have h : MlKeeps m { m with inflight := m.inflight.filter (fun e => !(e.job == j)) } :=
    .same rfl le_rfl le_rfl (List.length_filter_le _ _)
  have h2 := h.trans (Ml.finishAll_keeps now res k (m.inflight.filter (·.job == j)) _)
  unfold Ml.finishJob
  simp only
  split
  · exact h2
  · exact h2.trans (Ml.slotFreed_keeps _)

theorem Ml.finishFirst_keeps (m : Ml) (now : Nat) (j : Job) (res : Result) :
    MlKeeps m (m.finishFirst now j res) := by
  unfold Ml.finishFirst
  split
  · exact .refl m
  · have h : MlKeeps m { m with inflight := m.inflight.eraseP (·.job == j) } :=
      .same rfl le_rfl le_rfl List.length_eraseP_le
    exact (h.trans (Ml.finishRecord_keeps _ _ _ _ _ _)).trans (Ml.slotFreed_keeps _)

theorem Ml.freeSlot_keeps (m : Ml) (u : ReadUse) : MlKeeps m (m.freeSlot u) :=
  .same rfl List.length_eraseP_le le_rfl le_rfl

theorem Ml.dropRead_keeps (m : Ml) (now : Nat) (u : ReadUse) (d : ReadData) : MlKeeps m (m.dropRead now u d) := by
  have h := Ml.freeSlot_keeps m u
  unfold Ml.dropRead
  split
  · split
    · exact h.trans (Ml.setCause_keeps _ _)
    · exact h.trans (Ml.recordFault_keeps _ _ _)
    · exact h.trans (Ml.windowFault_keeps _ _ _ _)
  · exact h

theorem Ml.issue_adds (m : Ml) (u : ReadUse) (addr len : Nat) (l : Link) : MlAdds 1 0 m (m.issue u addr len l) where
  cause _ h := h
  reads := by simp [Ml.issue]
  reports := id
  inflight := le_rfl

theorem Ml.hold_adds (m : Ml) (r : Link) (kind : Nat) (j : Job) (k : Bool) : MlAdds 0 1 m (m.hold r kind j k) where
  cause _ h := h
  reads := le_rfl
  reports := id
  inflight := by simp [Ml.hold]

/-! ### The same, on State -/

section
variable (s : State)

theorem State.ml_keeps {m : Ml} (h : MlKeeps s.ml m) : Keeps s { s with ml := m } :=
  .ofMl h rfl rfl rfl rfl rfl rfl

theorem State.tell_keeps (n : Notice) : Keeps s (s.tell n) := .same rfl rfl rfl rfl rfl le_rfl rfl
theorem State.report_keeps (cls kind : Nat) (a b c : Word) : Keeps s (s.report cls kind a b c) :=
  s.ml_keeps (Ml.post_keeps _ _)
theorem State.windowFault_keeps (l : Link) (b : Block) : Keeps s (s.windowFault l b) :=
  s.ml_keeps (Ml.windowFault_keeps _ _ _ _)
theorem State.finish_keeps (r : Link) (res : Result) (why : Reason) (k : Bool) :
    Keeps s (s.finish r res why k) := s.ml_keeps (Ml.finishRecord_keeps _ _ _ _ _ _)
theorem State.finishJob_keeps (j : Job) (res : Result) (k : Bool) : Keeps s (s.finishJob j res k) :=
  s.ml_keeps (Ml.finishJob_keeps _ _ _ _ _)
theorem State.setCause_keeps (bit : Nat) : Keeps s (s.setCause bit) := s.ml_keeps (Ml.setCause_keeps _ _)
theorem State.freeSlot_keeps (u : ReadUse) : Keeps s { s with ml := s.ml.freeSlot u } :=
  s.ml_keeps (Ml.freeSlot_keeps _ _)
theorem State.dropRead_keeps (u : ReadUse) (d : ReadData) : Keeps s (s.dropRead u d) :=
  s.ml_keeps (Ml.dropRead_keeps _ _ _ _)
theorem State.hold_adds (r : Link) (kind : Nat) (j : Job) (k : Bool) : Adds 0 1 s (s.hold r kind j k) :=
  .ofMl (Ml.hold_adds _ _ _ _ _) rfl rfl rfl rfl rfl rfl

theorem State.setBus_keeps (b : Nat) (x : Bus) : Keeps s (s.setBus b x) := .same rfl rfl rfl rfl rfl le_rfl rfl
theorem State.setVoice_keeps (v : Nat) (x : Voice) : Keeps s (s.setVoice v x) :=
  .same rfl rfl rfl rfl rfl le_rfl rfl
theorem State.setMix_keeps (m : Nat) (x : Mix) : Keeps s (s.setMix m x) := .same rfl rfl rfl rfl rfl le_rfl rfl
theorem State.setZone_keeps (z : Nat) (x : Zone) : Keeps s (s.setZone z x) :=
  .same rfl rfl rfl rfl rfl le_rfl rfl
theorem State.setInput_keeps (c : Nat) (x : Input) : Keeps s (s.setInput c x) :=
  .same rfl rfl rfl rfl rfl le_rfl rfl
theorem State.setOutput_keeps (k : Nat) (x : Output) : Keeps s (s.setOutput k x) :=
  .same rfl rfl rfl rfl rfl le_rfl rfl
theorem State.setFollow_keeps (f : Follow) : Keeps s (s.setFollow f) := .same rfl rfl rfl rfl rfl le_rfl rfl
theorem State.setCk_keeps (c : Ck) : Keeps s (s.setCk c) := .same rfl rfl rfl rfl rfl le_rfl rfl
theorem State.setClockState_keeps (x : ClockState) : Keeps s (s.setClockState x) :=
  .same rfl rfl rfl rfl rfl le_rfl rfl
theorem State.setIl_keeps (x : IlState) : Keeps s (s.setIl x) := .same rfl rfl rfl rfl rfl le_rfl rfl
theorem State.mapContrib_keeps (b c : Nat) (f : Contrib → Contrib) : Keeps s (s.mapContrib b c f) :=
  .same rfl rfl rfl rfl rfl le_rfl rfl
theorem State.setPage_keeps (p : Page) : Keeps s (s.setPage p) :=
  .same rfl rfl rfl rfl rfl (by simp [State.setPage]) rfl
theorem State.dropPage_keeps (id : Nat) : Keeps s (s.dropPage id) :=
  .same rfl rfl rfl rfl rfl (List.length_filter_le _ _) rfl
theorem State.setHolder_keeps (z : Nat) (h : Option Nat) : Keeps s (s.setHolder z h) :=
  .same rfl rfl rfl rfl rfl le_rfl rfl
theorem State.setDuckFade_keeps (z : Nat) (f : DuckFade) : Keeps s (s.setDuckFade z f) :=
  .same rfl rfl rfl rfl rfl le_rfl rfl
theorem State.setMic_keeps (m : Nat) (id : Option Nat) : Keeps s (s.setMic m id) :=
  .same rfl rfl rfl rfl rfl le_rfl rfl
theorem State.handOnAir_keeps : Keeps s s.handOnAir := .same rfl rfl rfl rfl rfl le_rfl rfl
theorem State.makeStart_keeps (v : Nat) (q : StartReq) : Keeps s (s.makeStart v q) :=
  .same rfl rfl rfl rfl rfl le_rfl rfl
theorem State.setStart_keeps (v : Nat) (x : VStart) : Keeps s (s.setStart v x) :=
  .same rfl rfl rfl rfl rfl le_rfl rfl
theorem State.repause_keeps : Keeps s s.repause := .same rfl rfl rfl rfl rfl le_rfl rfl
theorem State.unholdStart_keeps (v : Nat) : Keeps s (s.unholdStart v) :=
  .ofMl (.same rfl le_rfl le_rfl (by simp [State.unholdStart])) rfl rfl rfl rfl rfl rfl
theorem State.staleRead_keeps (fire : Bool) : Keeps s (s.staleRead fire) :=
  .ofMl (.same rfl (by simp [State.staleRead]) le_rfl le_rfl) rfl rfl rfl rfl rfl rfl
theorem State.setArming_keeps (fire : Bool) (a : Option Arming) : Keeps s (s.setArming fire a) := by
  cases fire <;> exact .same rfl rfl rfl rfl rfl le_rfl rfl
theorem State.setRecall_keeps (q : Recall) : Keeps s (s.setRecall q) :=
  { Adds.refl s with recalls := by simp [State.setRecall] }
theorem State.dropRecall_keeps (n : Nat) : Keeps s (s.dropRecall n) :=
  { Adds.refl s with recalls := (List.length_filter_le _ _).trans }

/-- Fewer fades, or as many. -/
theorem State.setFades_keeps {l : List Fade} (h : l.length ≤ s.lv.fades.length) : Keeps s (s.setFades l) :=
  { Adds.refl s with fades := h.trans }

end

end Sys2Proof.Machine
end

