-- ==== Sys2Proof/Laws/KeepsUnits.lean ====
section
/-! SUPPORT. What the operations of the level unit, the mix matrix, the voice unit, the foldback controller and
the relay controller keep. -/

namespace Sys2Proof.Machine

variable (s : State)

/-! ### Level unit -/

theorem State.dropFade_keeps (t : Target) (c : FadeCause) : Keeps s (s.dropFade t c) := by
  unfold State.dropFade; split
  · exact .refl s
  · exact (s.setFades_keeps (List.length_filter_le _ _)).then (State.tell_keeps _ _)

/-- A takeover frees the place of its target: the table is shorter if the target had an entry. -/
theorem State.dropFade_length (t : Target) (c : FadeCause) (h : (s.fadeOn t).isSome = true) :
    (s.dropFade t c).lv.fades.length < s.lv.fades.length := by
  obtain ⟨f, hf⟩ := Option.isSome_iff_exists.1 h
  have hm : f ∈ s.lv.fades := List.mem_of_find?_eq_some hf
  have ht : (f.target == t) = true := List.find?_some (p := fun x : Fade => x.target == t) hf
  simp only [State.dropFade, hf, State.tell_lv, State.setFades_lv]
  exact List.length_filter_lt_length_iff_exists.2 ⟨f, hm, by simp [ht]⟩

theorem State.revive_keeps (t : Target) : Keeps s (s.revive t) := by
  unfold State.revive; split
  · exact State.mapContrib_keeps _ _ _ _
  · exact .refl s

theorem State.putLevel_keeps (t : Target) (v : Level) : Keeps s (s.putLevel t v) := by
  cases t <;> exact .same rfl rfl rfl rfl rfl le_rfl rfl

theorem State.deleteContrib_keeps (b c : Nat) : Keeps s (s.deleteContrib b c) := by
  unfold State.deleteContrib; split
  · exact .refl s
  · exact (State.setBus_keeps _ _ _).then (State.dropFade_keeps _ _ _)

theorem State.completion_keeps (t : Target) (r : Bool) : Keeps s (s.completion t r) := by
  unfold State.completion; split
  · exact State.deleteContrib_keeps _ _ _
  · exact .refl s

theorem State.setInstant_keeps (t : Target) (v : Level) : Keeps s (s.setInstant t v) :=
  ((s.dropFade_keeps t _).then (State.putLevel_keeps _ _ _)).then (State.revive_keeps _ _)

theorem State.snap_keeps (t : Target) (v : Level) (o : Owner) (r : Bool) : Keeps s (s.snap t v o r) := by
  unfold State.snap
  refine (Adds.then ?_ (State.tell_keeps _ _)).then (State.report_keeps _ _ _ _ _ _)
  refine (s.putLevel_keeps t v).then ?_
  split
  · exact State.completion_keeps _ _ _
  · exact State.revive_keeps _ _

/-- A fade entered where there is room, or in the place its own takeover frees (01, R16, R17). -/
theorem State.enterFade_keeps (t : Target) (v : Level) (ms : Nat) (law : Law) (o : Owner) (r : Bool)
    (h : (s.fadeOn t).isSome = true ∨ s.lv.fades.length < 1024) : Keeps s (s.enterFade t v ms law o r) := by
  have key : Keeps s ((s.dropFade t .takenOver).setFades ((s.dropFade t .takenOver).lv.fades ++
      [⟨t, o, (s.dropFade t .takenOver).levelOf t, v, fadePeriods (s.dropFade t .takenOver).ck.rate ms, 0, law,
        r, isCueOwner o && (s.dropFade t .takenOver).frozen⟩])) :=
    { s.dropFade_keeps t .takenOver with
      fades := fun hf => by
        have hk := (s.dropFade_keeps t .takenOver).fades hf
        simp only [State.setFades_lv_fades, List.length_append, List.length_singleton]
        rcases hn : (s.fadeOn t).isSome with _ | _
        · have hlt : s.lv.fades.length < 1024 := by simpa [hn] using h
          have hd : s.dropFade t .takenOver = s := by
            unfold State.dropFade; split
            · rfl
            · rename_i f hf'; simp [hf'] at hn
          rw [hd]; omega
        · have := s.dropFade_length t .takenOver hn; omega }
  unfold State.enterFade
  simp only
  split
  · exact key
  · exact key.then (State.revive_keeps _ _)

theorem State.fadeTo_keeps (t : Target) (v : Level) (ms : Nat) (law : Law) (o : Owner) (r : Bool) :
    Keeps s (s.fadeTo t v ms law o r) := by
  unfold State.fadeTo; split
  · exact State.snap_keeps _ _ _ _ _
  · rename_i h
    refine s.enterFade_keeps t v ms law o r ?_
    by_cases hs : (s.fadeOn t).isSome = true
    · exact .inl hs
    · right
      have : (s.fadeOn t).isNone = true := by simpa using hs
      simp [this, Config.fadeCapacity] at h; omega

theorem State.fadeOrSet_keeps (t : Target) (v : Level) (ms : Nat) (law : Law) (o : Owner) :
    Keeps s (s.fadeOrSet t v ms law o) := by
  unfold State.fadeOrSet; split
  · exact State.setInstant_keeps _ _ _
  · exact State.fadeTo_keeps _ _ _ _ _ _ _

theorem State.completeFade_keeps (f : Fade) : Keeps s (s.completeFade f) :=
  (((s.putLevel_keeps f.target f.t).then (State.setFades_keeps _ (List.length_filter_le _ _))).then
    (State.completion_keeps _ _ _)).then (State.tell_keeps _ _)

theorem State.writeFade_keeps (f : Fade) : Keeps s (s.writeFade f) := by
  unfold State.writeFade; split
  · exact .refl s
  · exact State.putLevel_keeps _ _ _

theorem State.stepFades_keeps : Keeps s s.stepFades :=
  ((s.setFades_keeps (by simp)).then (keeps_foldl State.writeFade_keeps _ _)).then
    (keeps_foldl State.completeFade_keeps _ _)

theorem State.markFrozen_keeps (b : Bool) : Keeps s (s.markFrozen b) := s.setFades_keeps (by simp)

/-- What a checked request keeps when it is carried out. -/
def KeepsOk {α : Type} (s : State) (r : Except Fail (State × α)) : Prop := ∀ t, r = .ok t → Keeps s t.1

theorem keepsOk_error {α : Type} (f : Fail) : KeepsOk (α := α) s (.error f) := fun _ h => by cases h

theorem keepsOk_ok {α : Type} {t : State} {k : α} (h : Keeps s t) : KeepsOk s (.ok (t, k)) := by
  intro x hx; cases hx; exact h

theorem State.answer_keeps (r : Link) {x : Except Fail (State × Bool)} (h : KeepsOk s x) :
    Keeps s (s.answer r x) := by
  cases x with
  | error f => exact State.finish_keeps _ _ _ _ _
  | ok t => exact (h _ rfl).then (State.finish_keeps _ _ _ _ _)

theorem State.applySetLevel_keeps (tf : TargetField) (mode : Nat) (v : Int) :
    KeepsOk s (s.applySetLevel tf mode v) := by
  unfold State.applySetLevel; split
  · exact keepsOk_error _ _
  · cases h : s.checkTarget tf with
    | error f => exact keepsOk_error _ f
    | ok t => exact keepsOk_ok _ (State.setInstant_keeps _ _ _)

theorem State.applyFade_keeps (tf : TargetField) (mode : Nat) (v : Int) (dur law : Nat) (o : Owner) :
    KeepsOk s (s.applyFade tf mode v dur law o) := by
  unfold State.applyFade; split
  · exact keepsOk_error _ _
  · split
    · exact keepsOk_error _ _
    · cases h : s.checkTarget tf with
      | error f => exact keepsOk_error _ f
      | ok t => exact keepsOk_ok _ (State.fadeOrSet_keeps _ _ _ _ _ _)

theorem State.applyStopFade_keeps (tf : TargetField) : KeepsOk s (s.applyStopFade tf) := by
  unfold State.applyStopFade
  cases h : s.checkTarget tf with
  | error f => exact keepsOk_error _ f
  | ok t =>
    simp only [bind, Except.bind]
    split
    · exact keepsOk_ok _ (.refl s)
    · split
      · exact keepsOk_ok _ ((State.dropFade_keeps _ _ _).then (State.revive_keeps _ _))
      · exact keepsOk_ok _ (State.dropFade_keeps _ _ _)

/-! ### Mix matrix -/

theorem State.insertEntry_keeps (b c : Nat) (v : Level) (pre : Bool) : Keeps s (s.insertEntry b c v pre) :=
  State.setBus_keeps _ _ _

theorem State.leave_keeps (b c ms : Nat) (law : Law) (o : Owner) : Keeps s (s.leave b c ms law o) :=
  (State.mapContrib_keeps _ _ _ _).then (State.fadeTo_keeps _ _ _ _ _ _ _)

theorem State.applySetContrib_keeps (b c : Nat) (v : Int) (tap dur law : Nat) (o : Owner) :
    KeepsOk s (s.applySetContrib b c v tap dur law o) := by
  unfold State.applySetContrib; split
  · exact keepsOk_error _ _
  · split
    · exact keepsOk_error _ _
    · simp only
      split
      · exact keepsOk_ok _ ((State.mapContrib_keeps _ _ _ _).then (State.fadeOrSet_keeps _ _ _ _ _ _))
      · split
        · exact keepsOk_error _ _
        · split
          · exact keepsOk_ok _ (State.insertEntry_keeps _ _ _ _ _)
          · exact keepsOk_ok _ ((State.insertEntry_keeps _ _ _ _ _).then (State.fadeTo_keeps _ _ _ _ _ _ _))

theorem State.applyRemoveContrib_keeps (b c dur law : Nat) (o : Owner) :
    KeepsOk s (s.applyRemoveContrib b c dur law o) := by
  unfold State.applyRemoveContrib; split
  · exact keepsOk_error _ _
  · split
    · exact keepsOk_error _ _
    · split
      · exact keepsOk_error _ _
      · simp only
        split
        · exact keepsOk_ok _ (State.deleteContrib_keeps _ _ _)
        · exact keepsOk_ok _ (State.leave_keeps _ _ _ _ _ _)

theorem State.limiterSteps_keeps : Keeps s s.limiterSteps := by
  unfold State.limiterSteps; split
  · exact .refl s
  · exact .same rfl rfl rfl rfl rfl le_rfl rfl

theorem State.computePeriod_keeps (l : List Frame) : Keeps s (s.computePeriod l) := by
  unfold State.computePeriod
  refine Adds.then (Adds.then ?_ (State.limiterSteps_keeps _)) (.same rfl rfl rfl rfl rfl (by simp) rfl)
  exact .same rfl rfl rfl rfl rfl le_rfl rfl

theorem State.formPeriod_keeps (closing : Bool) : Keeps s (s.formPeriod closing) := by
  unfold State.formPeriod
  exact .same rfl rfl rfl rfl rfl (by simp) rfl

/-! ### Voice unit -/

theorem State.becomePrimed_keeps (v : Nat) : Keeps s (s.becomePrimed v) := by
  unfold State.becomePrimed
  simp only
  split
  · exact (State.setVoice_keeps _ _ _).then (State.tell_keeps _ _)
  · exact State.setVoice_keeps _ _ _

theorem State.freeVoice_keeps (v : Nat) : Keeps s (s.freeVoice v) := by
  have h1 := ((State.report_keeps s clsAudio repVoiceEnd (w32 v) (w32 (endCauseCode (s.voice v).endCause))
    (w32 (s.voice v).underruns)).then (State.finishJob_keeps _ (.startVoice v false) .aborted false)).then
    (State.finishJob_keeps _ (.teardown v) .ok false)
  have h2 : ∀ (o : VOwner) t, Keeps s t → Keeps s
      (match o with | .page id => t.tell (.pageVoiceEnded id v (s.voice v).endCause) | _ => t) := by
    intro o t ht
    cases o with
    | page id => exact ht.then (State.tell_keeps _ _)
    | _ => exact ht
  have h3 := (h2 (s.voice v).owner _ h1).then (State.setVoice_keeps _ v Voice.reset)
  have h4 : ∀ (w : Option StartReq) t, Keeps s t → Keeps s
      (match w with
       | some q => (t.makeStart v q).unholdStart v
       | none => if t.available v then t.tell .scan else t) := by
    intro w t ht
    cases w with
    | some q => exact (ht.then (State.makeStart_keeps _ _ _)).then (State.unholdStart_keeps _ _)
    | none =>
      show Keeps s (if t.available v then t.tell .scan else t)
      split
      · exact ht.then (State.tell_keeps _ _)
      · exact ht
  exact h4 (s.voice v).waiting _ h3

theorem State.drain_keeps (v : Nat) (c : EndCause) : Keeps s (s.drain v c) := by
  have h : ∀ (x : VState) (o : VOwner) t, Keeps s t → Keeps s
      (match x, o with
       | .priming, .await fire => t.tell (.primeLost v fire)
       | _, _ => t) := by
    intro x o t ht; split
    · exact ht.then (State.tell_keeps _ _)
    · exact ht
  have h2 : ∀ (b : Bool) t, Keeps s t → Keeps s (if b then t.freeVoice v else t) := by
    intro b t ht; split
    · exact ht.then (State.freeVoice_keeps _ _)
    · exact ht
  exact h2 _ _ (h (s.voice v).st (s.voice v).owner _ (State.setVoice_keeps _ _ _))

theorem State.voiceFault_keeps (v : Nat) (l : Link) (f : Nat) : Keeps s (s.voiceFault v l f) := by
  unfold State.voiceFault
  have h := ((State.windowFault_keeps s l .voice).then
    (State.report_keeps _ clsAudio repVoiceFault (w32 v) (w32 l.win) (w32 f))).then
    (State.finishJob_keeps _ (.startVoice v false) .window false)
  simp only
  split
  · split
    · exact h.then (State.freeVoice_keeps _ _)
    · exact h
  · exact h.then (State.drain_keeps _ _ _)

theorem State.stopVoice_keeps (v : Nat) (q : StopReq) : Keeps s (s.stopVoice v q) := by
  unfold State.stopVoice
  simp only
  split
  · exact .refl s
  · exact .refl s
  · exact State.drain_keeps _ _ _
  · exact State.drain_keeps _ _ _
  · split
    · exact .refl s
    · split <;> exact State.setVoice_keeps _ _ _
  · split
    · exact .refl s
    · split <;> exact State.setVoice_keeps _ _ _
  · split
    · exact State.setVoice_keeps _ _ _
    · split
      · exact (State.setVoice_keeps _ _ _).then (State.drain_keeps _ _ _)
      · exact State.setVoice_keeps _ _ _

theorem State.releasePrime_keeps (v : Nat) (o : VOwner) : Keeps s (s.releasePrime v o) := by
  unfold State.releasePrime
  simp only
  split
  · exact State.stopVoice_keeps _ _ _
  · exact .refl s

theorem State.supplyVoice_keeps (v : Nat) : Keeps s (s.supplyVoice v).1 := by
  have h2 : ∀ (u : Option Nat) t, Keeps s t → Keeps s (match u with
      | some f => t.report clsAudio repVoiceUnderrun (w32 v) (w32 f) (voiceOwnerWord (s.voice v).owner)
      | none => t) := by
    intro u t ht; split
    · exact ht.then (State.report_keeps _ _ _ _ _ _)
    · exact ht
  have h3 : ∀ (b : Bool) (o : VOwner) t, Keeps s t → Keeps s (match b, o with
      | true, .page id => t.tell (.pagePartEnded id v)
      | _, _ => t) := by
    intro b o t ht; split
    · exact ht.then (State.tell_keeps _ _)
    · exact ht
  exact h3 _ _ _ (h2 _ _ (State.setVoice_keeps s v (s.voice v).supply.voice))

theorem State.tickVoices_keeps : Keeps s s.tickVoices.1 := by
  unfold State.tickVoices
  suffices h : ∀ (l : List Nat) (acc : State × List Int), Keeps acc.1 (l.foldl (fun acc v =>
      if acc.1.running && (acc.1.voice v).sounds then
        let r := acc.1.supplyVoice v
        (r.1, acc.2 ++ [r.2])
      else (acc.1, acc.2 ++ [0])) acc).1 from h _ (s, [])
  intro l
  induction l with
  | nil => exact fun acc => .refl acc.1
  | cons v vs ih =>
    intro acc
    rw [List.foldl_cons]
    split
    · exact (State.supplyVoice_keeps acc.1 v).then (ih ((acc.1.supplyVoice v).1, _))
    · exact ih (acc.1, acc.2 ++ [0])

theorem State.beginVoice_keeps (v : Nat) : Keeps s (s.beginVoice v) := by
  have h0 : ∀ (b : Bool) (x : VStart), Keeps s (match b, x with
      | true, .at d => s.report clsAudio repVoiceLate (w32 v) (w32 (s.ck.now - d))
          (voiceOwnerWord (s.voice v).owner)
      | _, _ => s) := by
    intro b x; split
    · exact State.report_keeps _ _ _ _ _ _
    · exact .refl s
  have h1 : ∀ (b : Bool) (x y : Voice) (t : State), Keeps s t → Keeps s
      (if b then t.setVoice v x
       else
        let r := (t.setVoice v y).supplyVoice v
        { r.1 with mx := { r.1.mx with frames := addToFrame r.1.mx.frames v r.2 (t.pageOfVoice v) } }) := by
    intro b x y t ht; split
    · exact ht.then (State.setVoice_keeps _ _ _)
    · exact ((ht.then (State.setVoice_keeps _ _ _)).then (State.supplyVoice_keeps _ _)).then
        (.same rfl rfl rfl rfl rfl le_rfl rfl)
  have h2 : ∀ (o : VOwner) u, Keeps s u → Keeps s (match o with
      | .page id => (u.finishJob (.startVoice v false) .ok).tell (.pageStarted id v)
      | _ => u.finishJob (.startVoice v false) .ok) := by
    intro o u hu
    have := hu.then (State.finishJob_keeps u (.startVoice v false) .ok false)
    cases o with
    | page id => exact this.then (State.tell_keeps _ _)
    | _ => exact this
  exact h2 (s.voice v).owner _ (h1 _ _ _ _ (h0 (s.voice v).late (s.voice v).start))

/-- The walker adds at most one read. -/
theorem State.walkerServe_adds : Adds 1 0 s s.walkerServe := by
  unfold State.walkerServe
  split
  · exact (Adds.refl s).mono (by omega) (by omega)
  · rename_i i _
    have h0 : Keeps s { s with vu := { s.vu with index := (i + 1) % s.walkList.length } } :=
      .same rfl rfl rfl rfl rfl le_rfl rfl
    have h1 : ∀ (t : State) (sl : ReadUse) (a n : Nat) (l : Link), Keeps s t →
        Adds 1 0 s { t with ml := t.ml.issue sl a n l } := fun t sl a n l h =>
      Adds.after h (.ofMl (Ml.issue_adds t.ml sl a n l) rfl rfl rfl rfl rfl rfl)
    simp only
    split
    · exact h0.mono (by omega) (by omega)
    · split
      · exact h1 _ _ _ _ _ (h0.then (State.setVoice_keeps _ _ _))
      · exact ((h0.then (State.setVoice_keeps _ _ _)).then (State.voiceFault_keeps _ _ _ _)).mono
          (by omega) (by omega)

theorem State.placeBlock_keeps (v : Nat) (f : Fetch) (b : List Byte) : Keeps s (s.placeBlock v f b) := by
  unfold State.placeBlock
  simp only
  split
  · exact (State.setVoice_keeps _ _ _).then (State.freeVoice_keeps _ _)
  · split
    · exact State.setVoice_keeps _ _ _
    · split
      · exact (State.setVoice_keeps _ _ _).then (State.becomePrimed_keeps _ _)
      · exact State.setVoice_keeps _ _ _

theorem State.setNotices_keeps (l : List Notice) : Keeps s { s with notices := l } :=
  .same rfl rfl rfl rfl rfl le_rfl rfl

theorem State.stoppingFetch_keeps (v : Nat) (d : ReadData) : Keeps s (s.stoppingFetch v d) := by
  have h : Keeps s ((s.dropRead (.fetch v) d).setVoice v { s.voice v with fetch := none }) :=
    (State.dropRead_keeps _ _ _).then (State.setVoice_keeps _ _ _)
  unfold State.stoppingFetch
  simp only
  split
  · exact (h.then (State.freeVoice_keeps _ _)).then (State.setNotices_keeps _ _)
  · exact h

theorem State.fetchReturn_keeps (v : Nat) (d : ReadData) : Keeps s (s.fetchReturn v d) := by
  unfold State.fetchReturn
  have h := State.freeSlot_keeps s (.fetch v)
  simp only
  split
  · exact State.dropRead_keeps _ _ _
  · split
    · exact State.stoppingFetch_keeps _ _ _
    · split
      · exact h.then (State.placeBlock_keeps _ _ _ _)
      · split
        · exact h.then (State.setVoice_keeps _ _ _)
        · exact (h.then (State.setVoice_keeps _ _ _)).then (State.voiceFault_keeps _ _ _ _)

theorem State.requestStart_keeps (v : Nat) (q : StartReq) : KeepsOk s (s.requestStart v q) := by
  unfold State.requestStart
  simp only
  split
  · exact keepsOk_error _ _
  · split
    · exact keepsOk_error _ _
    · split
      · exact keepsOk_ok _ (State.makeStart_keeps _ _ _)
      · split
        · exact keepsOk_ok _ (State.setVoice_keeps _ _ _)
        · exact keepsOk_error _ _

theorem State.applyStopVoice_keeps (v mode n : Nat) : KeepsOk s (s.applyStopVoice v mode n) := by
  unfold State.applyStopVoice
  split
  · exact keepsOk_error _ _
  · split
    · exact keepsOk_error _ _
    · split
      · exact keepsOk_error _ _
      · exact keepsOk_ok _ (State.stopVoice_keeps _ _ _)

theorem State.teardown_keeps (v : Nat) : Keeps s (s.teardown v) := by
  unfold State.teardown
  simp only
  split
  · split
    · exact State.setVoice_keeps _ _ _
    · split
      · exact (State.setVoice_keeps _ _ _).then (State.tell_keeps _ _)
      · exact (State.setVoice_keeps _ _ _).then (State.finishJob_keeps _ _ _ _)
  · exact State.drain_keeps _ _ _

/-! ### Foldback controller -/

theorem State.followTalk_keeps (m : Nat) : Keeps s (s.followTalk m) := by
  unfold State.followTalk
  simp only
  split
  · exact (State.setMix_keeps _ _ _).then (State.fadeTo_keeps _ _ _ _ _ _ _)
  · exact (State.setMix_keeps _ _ _).then (State.fadeTo_keeps _ _ _ _ _ _ _)
  · exact .refl s

theorem State.followTalkAll_keeps : Keeps s s.followTalkAll := keeps_foldl State.followTalk_keeps _ _

theorem State.setTalkFn_keeps (on : Bool) : Keeps s (s.setTalkFn on) := by
  refine Adds.then ?_ (State.followTalkAll_keeps _)
  exact .same rfl rfl rfl rfl rfl le_rfl rfl

theorem State.applyTalk_keeps (v : Nat) : KeepsOk s (s.applyTalk v) := by
  unfold State.applyTalk
  split
  · exact keepsOk_error _ _
  · refine keepsOk_ok _ (Adds.then ?_ (State.followTalkAll_keeps _))
    exact .same rfl rfl rfl rfl rfl le_rfl rfl

theorem State.applySetFoldback_keeps (m : Nat) (f : FoldbackField) : KeepsOk s (s.applySetFoldback m f) := by
  unfold State.applySetFoldback
  split
  · exact keepsOk_error _ _
  · have h0 := State.setMix_keeps s m (writeMix (s.mix m) f).1
    generalize hw : writeMix (s.mix m) f = w at h0
    have h1 : Keeps s (if (s.mix m).talking = true ∧ w.1.inSet = true then
        (if w.1.dimDepth = (s.mix m).dimDepth then s.setMix m w.1
         else (s.setMix m w.1).fadeTo (.dim m) w.1.dimDepth 50 .linear .talk)
        else (s.setMix m w.1).followTalk m) := by
      split
      · split
        · exact h0
        · exact h0.then (State.fadeTo_keeps _ _ _ _ _ _ _)
      · exact h0.then (State.followTalk_keeps _ _)
    simp only [hw]
    exact keepsOk_ok _ h1

theorem State.sceneSkipped_keeps (m n : Nat) (w : SceneReason) : Keeps s (s.sceneSkipped m n w) :=
  State.report_keeps _ _ _ _ _ _

/-- A recall accepted finds a place in the list (05, R116). -/
theorem State.acceptRecall_keeps (r : Option Link) (l : Link) (dur law : Nat) {t : State × Nat × Bool}
    (h : s.acceptRecall r l dur law = .ok t) : Keeps s t.1 := by
  unfold State.acceptRecall at h
  split at h
  · cases h
  · split at h
    · cases h
    · split at h
      · cases h
      · rename_i hn
        cases h
        have : s.fb.recalls.length < 16 := by simp [Config.recallCapacity] at hn; omega
        exact { Adds.refl s with recalls := fun _ => by simp; omega }

theorem State.actionRecall_keeps (l : Link) (dur law : Nat) : Keeps s (s.actionRecall l dur law) := by
  unfold State.actionRecall
  split
  · rename_i h; exact State.acceptRecall_keeps _ _ _ _ _ h
  · exact State.sceneSkipped_keeps _ _ _ _

theorem State.sceneFault_keeps (q : Recall) (w : SceneReason) : Keeps s (s.sceneFault q w) :=
  ((State.dropRecall_keeps _ _).then (State.sceneSkipped_keeps _ _ _ _)).then (State.finishJob_keeps _ _ _ _)

theorem State.makeRoom_keeps (before : List Nat) (b n fuel : Nat) (s : State) :
    Keeps s (State.makeRoom before b n fuel s) := by
  induction fuel generalizing s with
  | zero => exact .refl s
  | succ k ih =>
    unfold State.makeRoom
    split
    · exact .refl s
    · split
      · exact .refl s
      · exact (State.deleteContrib_keeps _ _ _).then (ih _)

theorem State.applyMix_keeps (q : Recall) (s : State) (k : MixBlock) : Keeps s (State.applyMix q s k) := by
  unfold State.applyMix
  split
  · exact State.sceneSkipped_keeps _ _ _ _
  · refine (((Adds.then ?_ (keeps_foldl ?_ _ _)).then (keeps_foldl ?_ _ _)).then
      (State.makeRoom_keeps _ _ _ _ _)).then (keeps_foldl ?_ _ _)
    · exact State.fadeOrSet_keeps _ _ _ _ _ _
    · exact fun t e => (State.mapContrib_keeps _ _ _ _).then (State.fadeOrSet_keeps _ _ _ _ _ _)
    · intro t c
      unfold State.recallLeave; split
      · exact State.deleteContrib_keeps _ _ _
      · exact State.leave_keeps _ _ _ _ _ _
    · intro t e
      unfold State.recallInsert; split
      · exact State.insertEntry_keeps _ _ _ _ _
      · exact (State.insertEntry_keeps _ _ _ _ _).then (State.fadeTo_keeps _ _ _ _ _ _ _)

theorem State.applyRecall_keeps (q : Recall) : Keeps s (s.applyRecall q) :=
  ((keeps_foldl (State.applyMix_keeps q) _ _).then (State.dropRecall_keeps _ _)).then
    (State.finishJob_keeps _ _ _ _)

theorem State.blockRead_keeps (q : Recall) (k : MixBlock) : Keeps s (s.blockRead q k) := by
  unfold State.blockRead
  simp only
  split
  · exact State.applyRecall_keeps _ _
  · exact State.setRecall_keeps _ _

theorem State.sceneData_keeps (q : Recall) (b : List Byte) : Keeps s (s.sceneData q b) := by
  unfold State.sceneData
  split
  · simp only
    split
    · exact State.sceneFault_keeps _ _ _
    · split
      · exact State.applyRecall_keeps _ _
      · exact State.setRecall_keeps _ _
  · simp only
    split
    · exact State.sceneFault_keeps _ _ _
    · split
      · exact State.blockRead_keeps _ _ _
      · exact State.setRecall_keeps _ _
  · simp only
    split
    · exact State.sceneFault_keeps _ _ _
    · exact State.blockRead_keeps _ _ _

theorem State.sceneReturn_keeps (n : Nat) (d : ReadData) : Keeps s (s.sceneReturn n d) := by
  unfold State.sceneReturn
  split
  · exact .refl s
  · have h := State.freeSlot_keeps s (.scene n)
    simp only
    split
    · exact State.dropRead_keeps _ _ _
    · split
      · exact State.dropRead_keeps _ _ _
      · split
        · exact h.then (State.sceneData_keeps _ _ _)
        · exact (h.then (State.windowFault_keeps _ _ _)).then (State.sceneFault_keeps _ _ _)

/-! ### Relay controller -/

theorem State.afterDuck_keeps (z : Nat) (f : DuckFade) : Keeps s (s.afterDuck z f) :=
  State.setDuckFade_keeps _ _ _

theorem State.duckZone_keeps (z : Nat) : Keeps s (s.duckZone z) := by
  unfold State.duckZone
  simp only
  split
  · exact .refl s
  · split
    · exact (State.setInstant_keeps _ _ _).then (State.setDuckFade_keeps _ _ _)
    · exact (State.fadeTo_keeps _ _ _ _ _ _ _).then (State.afterDuck_keeps _ _ _)

theorem State.releaseZone_keeps (z : Nat) : Keeps s (s.releaseZone z) := by
  unfold State.releaseZone
  simp only
  split
  · exact .refl s
  · split
    · exact (State.setInstant_keeps _ _ _).then (State.setDuckFade_keeps _ _ _)
    · exact (State.fadeTo_keeps _ _ _ _ _ _ _).then (State.afterDuck_keeps _ _ _)

theorem State.postOnAir_keeps (p : Page) : Keeps s (s.postOnAir p) :=
  (State.report_keeps _ _ _ _ _ _).then (State.handOnAir_keeps _)

theorem State.goOnAir_keeps (p : Page) : Keeps s (s.goOnAir p) := by
  unfold State.goOnAir
  split
  · exact (State.setPage_keeps _ _).then (State.setStart_keeps _ _ _)
  · exact (State.setPage_keeps _ _).then (State.postOnAir_keeps _ _)

theorem State.tryLeaveAttack_keeps (id : Nat) : Keeps s (s.tryLeaveAttack id) := by
  unfold State.tryLeaveAttack
  split
  · exact .refl s
  · split
    · exact State.goOnAir_keeps _ _
    · exact .refl s

theorem State.postEnded_keeps (id : Nat) (c : PageCause) (v : EndCause) : Keeps s (s.postEnded id c v) :=
  State.report_keeps _ _ _ _ _ _

theorem State.endPage_keeps (id : Nat) (c : PageCause) (v : EndCause) : Keeps s (s.endPage id c v) := by
  unfold State.endPage
  split
  · exact .refl s
  · rename_i p _
    split
    · exact (State.dropPage_keeps _ _).then (State.postEnded_keeps _ _ _ _)
    · have h := (State.dropPage_keeps s id).then
        (keeps_foldl (f := fun s z => (s.setHolder z none).releaseZone z)
          (fun t z => (State.setHolder_keeps t z none).then (State.releaseZone_keeps _ z)) (s.heldZones id) _)
      have h2 : ∀ (w : Option Nat) t, Keeps s t →
          Keeps s (match w with | some n => t.stopVoice n .cut | none => t) := by
        intro w t ht; split
        · exact ht.then (State.stopVoice_keeps _ _ _)
        · exact ht
      have h3 : ∀ (b : Bool) t, Keeps s t → Keeps s (if b then t.setMic p.mic none else t) := by
        intro b t ht; split
        · exact ht.then (State.setMic_keeps _ _ _)
        · exact ht
      exact (((h3 p.live _ (h2 p.voice _ h)).then (State.postEnded_keeps _ _ _ _)).then
        (State.handOnAir_keeps _)).then (State.tell_keeps _ _)

theorem State.preempted_keeps (id : Nat) : Keeps s (s.preempted id) := by
  unfold State.preempted
  split
  · exact .refl s
  · split
    · exact State.endPage_keeps _ _ _ _
    · exact (State.tryLeaveAttack_keeps _ _).then (State.handOnAir_keeps _)

theorem State.takeVoice_keeps (p : Page) : Keeps s (s.takeVoice p).1 := by
  unfold State.takeVoice
  split
  · exact .refl s
  · split
    · exact .refl s
    · have h : ∀ (o x : Option Desc) (v : Nat), Keeps s (match o with
          | none => (s, none)
          | some d => (s.makeStart v ⟨.page p.id, d, x, .notYet⟩, some v) : State × Option Nat).1 := by
        intro o x v
        cases o with
        | none => exact .refl s
        | some d => exact State.makeStart_keeps _ _ _
      exact h _ _ _

theorem State.grant_keeps (p : Page) (c : BitVec 32) : Keeps s (s.grant p c) := by
  have h := (keeps_foldl (f := fun s z => s.setHolder z (some p.id)) (fun t z => State.setHolder_keeps t z _)
      ((oneTo 32).filter (s.zoneAvailable p c)) s).then
    (keeps_foldl State.preempted_keeps
      (((oneTo 32).filter (s.zoneAvailable p c)).filterMap fun z => (s.zone z).holder).eraseDups _)
  have h2 : ∀ (b : Bool) t, Keeps s t → Keeps s (if b then t.setMic p.mic (some p.id) else t) := by
    intro b t ht; split
    · exact ht.then (State.setMic_keeps _ _ _)
    · exact ht
  exact (((((h2 p.live _ h).then (State.takeVoice_keeps _ p)).then (State.setPage_keeps _ _)).then
    (State.report_keeps _ _ _ _ _ _)).then (keeps_foldl State.duckZone_keeps _ _)).then
    (State.tryLeaveAttack_keeps _ _)

theorem State.examine_keeps (acc : State × BitVec 32) (id : Nat) : Keeps acc.1 (State.examine acc id).1 := by
  unfold State.examine
  split
  · exact .refl _
  · split
    · exact .refl _
    · split
      · exact State.grant_keeps _ _ _
      · split <;> exact .refl _

theorem State.scan_keeps : Keeps s s.scan := by
  unfold State.scan
  suffices h : ∀ (l : List Nat) (acc : State × BitVec 32), Keeps acc.1 (l.foldl State.examine acc).1 from
    h _ (s, 0)
  intro l
  induction l with
  | nil => exact fun acc => .refl acc.1
  | cons v vs ih => exact fun acc => (State.examine_keeps acc v).then (ih _)

/-- A request taken finds a place in the page table (06, R129). -/
theorem State.takePage_keeps (p : Page) : Keeps s (s.takePage p).1 := by
  unfold State.takePage
  split
  · exact .refl s
  · split
    · exact .refl s
    · split
      · exact .refl s
      · rename_i hn
        have hl : s.rc.pages.length < 16 := by simp [Config.pageCapacity] at hn; omega
        have key : ∀ (n : Nat) (q : Page), Keeps s
            (({ s with rc := { s.rc with arrival := n, pages := s.rc.pages ++ [q] } } : State).scan) := by
          intro n q
          refine Adds.then (t := { s with rc := { s.rc with arrival := n, pages := s.rc.pages ++ [q] } }) ?_
            (State.scan_keeps _)
          exact { Adds.refl s with pages := fun _ => by simp; omega }
        have last : ∀ (t : State) (o : Option Page) (w : Option Nat), Keeps s t → Keeps s
            (match o, w with
              | some q, some 0 =>
                if q.st = .waiting then (t.dropPage p.id, some PageRefusal.notGranted) else (t, none)
              | _, _ => (t, none) : State × Option PageRefusal).1 := by
          intro t o w ht
          split
          · split
            · exact ht.then (State.dropPage_keeps _ _)
            · exact ht
          · exact ht
        exact last _ _ _ (key _ _)

theorem State.requestPage_keeps (f : PageField) : Keeps s (s.requestPage f).1 := by
  unfold State.requestPage
  split
  · exact .refl s
  · exact State.takePage_keeps _ _

theorem State.startPage_keeps (r : Link) (f : PageField) : Keeps s (s.startPage r f) := by
  have h := State.requestPage_keeps s f
  unfold State.startPage
  split
  · rename_i heq; rw [heq] at h; exact h.then (State.finish_keeps _ _ _ _ _)
  · rename_i heq; rw [heq] at h; exact h.then (State.finish_keeps _ _ _ _ _)

theorem State.applyEndPage_keeps (id : Nat) : KeepsOk s (s.applyEndPage id) := by
  unfold State.applyEndPage
  split
  · exact keepsOk_error _ _
  · split
    · exact keepsOk_ok _ (State.endPage_keeps _ _ _ _)
    · exact keepsOk_error _ _

theorem State.applyCancelPage_keeps (id : Nat) : KeepsOk s (s.applyCancelPage id) := by
  unfold State.applyCancelPage
  split
  · exact keepsOk_error _ _
  · exact keepsOk_ok _ (State.endPage_keeps _ _ _ _)

theorem State.pressPage_keeps (n : Nat) : Keeps s (s.pressPage n) := by
  unfold State.pressPage
  split
  · exact .refl s
  · simp only
    split
    · exact .refl s
    · exact State.takePage_keeps _ _

theorem State.applySetButton_keeps (b u : Nat) (f : ButtonField) : KeepsOk s (s.applySetButton b u f) := by
  unfold State.applySetButton
  simp only
  split
  · exact keepsOk_error _ _
  · split
    · exact keepsOk_ok _ (.same rfl rfl rfl rfl rfl le_rfl rfl)
    · split
      · exact keepsOk_error _ _
      · exact keepsOk_ok _ (.same rfl rfl rfl rfl rfl le_rfl rfl)

theorem State.applySetZone_keeps (z : Nat) (f : ZoneField) : KeepsOk s (s.applySetZone z f) := by
  unfold State.applySetZone
  split
  · exact keepsOk_error _ _
  · have h1 : ∀ (h : Option Nat) (c : Nat → Prop) [∀ i, Decidable (c i)] (t : State), Keeps s t → Keeps s
        (match h with
         | none => t
         | some id => if c id then (t.duckZone z).tryLeaveAttack id else t) := by
      intro h c _ t ht; split
      · exact ht
      · split
        · exact (ht.then (State.duckZone_keeps _ _)).then (State.tryLeaveAttack_keeps _ _)
        · exact ht
    have h2 : ∀ (c : Prop) [Decidable c] (t : State), Keeps s t → Keeps s (if c then t else t.handOnAir) := by
      intro c _ t ht; split
      · exact ht
      · exact ht.then (State.handOnAir_keeps _)
    exact keepsOk_ok _ (h2 _ _ (h1 _ (fun _ => _) _ (State.setZone_keeps s z (writeZone (s.zone z) f).1)))

theorem State.duckNotice_keeps (z : Nat) (c : FadeCause) : Keeps s (s.duckNotice z c) := by
  unfold State.duckNotice
  split
  · simp only
    split
    · exact (State.setDuckFade_keeps _ _ _).then (State.tryLeaveAttack_keeps _ _)
    · exact State.setDuckFade_keeps _ _ _
  · exact .refl s

theorem State.pageStarted_keeps (id v : Nat) : Keeps s (s.pageStarted id v) := by
  unfold State.pageStarted
  split
  · exact .refl s
  · split
    · exact (State.setPage_keeps _ _).then (State.postOnAir_keeps _ _)
    · exact .refl s

theorem State.pageVoiceEnded_keeps (id v : Nat) (c : EndCause) : Keeps s (s.pageVoiceEnded id v c) := by
  unfold State.pageVoiceEnded
  split
  · exact .refl s
  · split
    · simp only
      split
      · exact (State.setPage_keeps _ _).then (State.endPage_keeps _ _ _ _)
      · split
        · exact State.goOnAir_keeps _ _
        · exact State.setPage_keeps _ _
        · exact State.setPage_keeps _ _
    · exact .refl s

theorem State.endLowPages_keeps : Keeps s s.endLowPages.1 :=
  keeps_foldl (fun _ _ => State.endPage_keeps _ _ _ _) _ _

end Sys2Proof.Machine
end

