-- ==== Sys2Proof/Laws/KeepsShow.lean ====
section
/-! SUPPORT. What the cue engine's operations keep: CAUSE bits stay set, and no capacity is exceeded. -/

namespace Sys2Proof.Machine

section
variable (s : State)

/-! ### What releasing a voice leaves of the cue engine -/

theorem State.freeVoice_ce (v : Nat) : (s.freeVoice v).ce = s.ce := by
  have h1 : ∀ (o : VOwner) (t : State), (match o with
      | .page id => t.tell (.pageVoiceEnded id v (s.voice v).endCause) | _ => t).ce = t.ce := by
    intro o t; cases o <;> rfl
  have h2 : ∀ (w : Option StartReq) (t : State), (match w with
      | some q => (t.makeStart v q).unholdStart v
      | none => if t.available v then t.tell .scan else t).ce = t.ce := by
    intro w t
    cases w with
    | some q => rfl
    | none => show (if t.available v then t.tell .scan else t).ce = t.ce; split <;> rfl
  exact (h2 (s.voice v).waiting _).trans (h1 (s.voice v).owner _)

theorem State.drain_ce (v : Nat) (c : EndCause) : (s.drain v c).ce = s.ce := by
  have h : ∀ (x : VState) (o : VOwner) (t : State), (match x, o with
      | .priming, .await fire => t.tell (.primeLost v fire)
      | _, _ => t).ce = t.ce := by
    intro x o t; split <;> rfl
  have h2 : ∀ (b : Bool) (t : State), (if b then t.freeVoice v else t).ce = t.ce := by
    intro b t; split
    · exact State.freeVoice_ce _ _
    · rfl
  exact (h2 _ _).trans (h (s.voice v).st (s.voice v).owner _)

theorem State.stopVoice_ce (v : Nat) (q : StopReq) : (s.stopVoice v q).ce = s.ce := by
  unfold State.stopVoice
  simp only
  split
  · rfl
  · rfl
  · exact State.drain_ce _ _ _
  · exact State.drain_ce _ _ _
  · split
    · rfl
    · split <;> rfl
  · split
    · rfl
    · split <;> rfl
  · split
    · rfl
    · split
      · exact State.drain_ce _ _ _
      · rfl

theorem State.releasePrime_ce (v : Nat) (o : VOwner) : (s.releasePrime v o).ce = s.ce := by
  unfold State.releasePrime
  simp only
  split
  · exact State.stopVoice_ce _ _ _
  · rfl

theorem State.releaseAction_ce (run : Nat) (b : ActionBody) : (s.releaseAction run b).ce = s.ce := by
  cases b <;> first | exact State.releasePrime_ce _ _ _ | rfl

theorem State.runEnded_runs (n : Nat) : (s.runEnded n).ce.runs = s.ce.runs := by
  unfold State.runEnded
  split
  · rfl
  · simp only
    split
    · rfl
    · split <;> rfl

/-! ### Armings -/

theorem State.releasePrimes_keeps (fire : Bool) (c : Cue) : Keeps s (s.releasePrimes fire c) :=
  keeps_foldl (fun t p => by
    split
    · exact .refl t
    · exact State.releasePrime_keeps _ _ _) _ _

theorem State.goIgnored_keeps (src : GoSource) (w : IgnoreReason) : Keeps s (s.goIgnored src w) :=
  State.report_keeps _ _ _ _ _ _

/-- Fields of the cue engine other than its runs and its queue. -/
theorem State.setCe_keeps {c : Ce} (r : c.runs = s.ce.runs) (q : c.queue = s.ce.queue) :
    Keeps s { s with ce := c } := .same rfl rfl r q rfl le_rfl rfl

theorem State.discardLatch_keeps (w : IgnoreReason) : Keeps s (s.discardLatch w) := by
  unfold State.discardLatch
  split
  · exact .refl s
  · exact (State.setCe_keeps s (by rfl) (by rfl)).then (State.goIgnored_keeps _ _ _)

theorem State.bookFault_keeps (fire : Bool) (a : Arming) (w : BookReason) : Keeps s (s.bookFault fire a w) := by
  have h := fun n => ((State.releasePrimes_keeps s fire a.cue).then (State.report_keeps _ clsCue repBookFault
    (w32 a.cue.index) (w32 (bookReasonCode w)) n)).then (State.setArming_keeps _ fire none)
  unfold State.bookFault
  simp only
  refine Adds.then ?_ (State.finishJob_keeps _ _ _ _)
  split
  · exact (h _).then (State.setCe_keeps _ (by rfl) (by rfl))
  · exact ((h _).then (State.setCe_keeps _ (by rfl) (by rfl))).then (State.discardLatch_keeps _ _)

/-- An arming's voices are released, if there is an arming. -/
theorem releaseArm_keeps (fire : Bool) (o : Option Arming) {t : State} (h : Keeps s t) :
    Keeps s (match o with | some a => t.releasePrimes fire a.cue | none => t) := by
  cases o with
  | none => exact h
  | some a => exact h.then (State.releasePrimes_keeps _ _ _)

/-- A cue's voices are released, if there is a cue. -/
theorem releaseCue_keeps (fire : Bool) (o : Option Cue) {t : State} (h : Keeps s t) :
    Keeps s (match o with | some c => t.releasePrimes fire c | none => t) := by
  cases o with
  | none => exact h
  | some a => exact h.then (State.releasePrimes_keeps _ _ _)

theorem State.abandonSeq_keeps : Keeps s s.abandonSeq := by
  unfold State.abandonSeq
  refine Adds.then (Adds.then (Adds.then ?_ (State.setCe_keeps _ (by rfl) (by rfl)))
    (State.discardLatch_keeps _ _)) (State.finishJob_keeps _ _ _ _)
  exact releaseCue_keeps s false _ (releaseArm_keeps s false _ (State.staleRead_keeps s false))

theorem State.abandonFire_keeps : Keeps s s.abandonFire := by
  unfold State.abandonFire
  split
  · exact .refl s
  · refine Adds.then (Adds.then ?_ (State.setCe_keeps _ (by rfl) (by rfl))) (State.finishJob_keeps _ _ _ _)
    exact releaseCue_keeps s true _ (releaseArm_keeps s true _ (State.staleRead_keeps s true))

theorem State.beginArming_keeps (fire : Bool) (n : Nat) : Keeps s (s.beginArming fire n) := by
  cases fire <;> exact .same rfl rfl rfl rfl rfl le_rfl rfl

theorem State.primeVoice_keeps (fire : Bool) (v : Nat) (d : DescField) : Keeps s (s.primeVoice fire v d).1 := by
  unfold State.primeVoice
  split
  · exact .refl s
  · split
    · exact .refl s
    · split
      · rename_i h; exact State.requestStart_keeps s _ _ _ h
      · exact .refl s

theorem State.startPrimes_keeps (fire : Bool) (c : Cue) : Keeps s (s.startPrimes fire c).1 := by
  unfold State.startPrimes
  suffices h : ∀ (l : List (Nat × Action)) (acc : State × List Prime), Keeps acc.1 (l.foldl (fun acc x =>
      match x.2.body with
      | .startVoice v d =>
        let r := acc.1.primeVoice fire v d
        (r.1, acc.2 ++ [⟨x.1, v, r.2⟩])
      | _ => acc) acc).1 from h _ (s, [])
  intro l
  induction l with
  | nil => exact fun acc => .refl acc.1
  | cons x xs ih =>
    intro acc
    refine Adds.then ?_ (ih _)
    dsimp only
    split
    · exact State.primeVoice_keeps _ _ _ _
    · exact .refl _

/-! ### Follow timer, runs and actions -/

theorem State.startFollow_keeps (c : Cue) : Keeps s (s.startFollow c) := by
  unfold State.startFollow
  split
  · exact .refl s
  · split
    · exact .refl s
    · split
      · exact State.setFollow_keeps _ _
      · split <;> exact State.setFollow_keeps _ _
      · exact .refl s

theorem State.runEnded_keeps (n : Nat) : Keeps s (s.runEnded n) := by
  unfold State.runEnded
  split
  · exact .refl s
  · simp only
    split
    · exact .refl s
    · split <;> exact .same rfl rfl rfl rfl rfl le_rfl rfl

/-- Fewer runs and fewer actions, or as many. -/
theorem State.lessCe_keeps {c : Ce} (r : c.runs.length ≤ s.ce.runs.length)
    (q : c.queue.length ≤ s.ce.queue.length) : Keeps s { s with ce := c } :=
  { Adds.refl s with runs := r.trans, actions := q.trans }

theorem State.fewerRuns_keeps {l : List Run} (h : l.length ≤ s.ce.runs.length) :
    Keeps s { s with ce := { s.ce with runs := l } } := State.lessCe_keeps s h le_rfl

theorem State.fewerActions_keeps {l : List Queued} (h : l.length ≤ s.ce.queue.length) :
    Keeps s { s with ce := { s.ce with queue := l } } := State.lessCe_keeps s le_rfl h

theorem State.examineRun_keeps (n : Nat) : Keeps s (s.examineRun n) := by
  unfold State.examineRun
  split
  · exact .refl s
  · rename_i r _
    split
    · exact .refl s
    · exact ((State.report_keeps s clsCue repCueDone (w32 n) (w32 r.display) (w32 r.index)).then
        (State.fewerRuns_keeps _ (List.length_filter_le _ _))).then (State.runEnded_keeps _ _)

theorem State.releaseAction_keeps (run : Nat) (b : ActionBody) : Keeps s (s.releaseAction run b) := by
  cases b <;> first | exact State.releasePrime_keeps _ _ _ | exact .refl s

theorem State.retire_keeps (r : Run) : Keeps s (s.retire r) := by
  refine Adds.then (Adds.then (Adds.then (t := { s with ce := { s.ce with
      queue := s.ce.queue.filter (fun q => !(q.run == r.number)),
      runs := s.ce.runs.filter fun x => !(x.number == r.number) } }) ?_
      (keeps_foldl (fun t q => State.releaseAction_keeps t _ _) _ _)) (State.report_keeps _ _ _ _ _ _))
    (State.runEnded_keeps _ _)
  exact State.lessCe_keeps _ (List.length_filter_le _ _) (List.length_filter_le _ _)

theorem State.retire_runs (r : Run) :
    (s.retire r).ce.runs = s.ce.runs.filter fun x => !(x.number == r.number) := by
  have h : ∀ (l : List Queued) (t : State), (l.foldl (fun s q => s.releaseAction q.run q.body) t).ce = t.ce := by
    intro l
    induction l with
    | nil => exact fun t => rfl
    | cons q qs ih => exact fun t => (ih _).trans (State.releaseAction_ce _ _ _)
  unfold State.retire
  rw [State.runEnded_runs]
  simp only [State.report_ce, h]

theorem State.timeVoice_keeps (v run : Nat) (x : VStart) : Keeps s (s.timeVoice v run x) := by
  unfold State.timeVoice
  split
  · exact State.setStart_keeps _ _ _
  · exact .refl s

theorem State.skipFail_keeps {r : Except Fail (State × Bool)} (h : KeepsOk s r) : Keeps s (s.skipFail r).1 := by
  cases r with
  | error f => exact .refl s
  | ok x => exact h x rfl

theorem State.actionPage_keeps (p : Option PageField) : Keeps s (s.actionPage p).1 := by
  unfold State.actionPage
  split
  · exact .refl s
  · exact State.requestPage_keeps _ _

theorem State.actionVoice_keeps (run v : Nat) (f : Option Skip) : Keeps s (s.actionVoice run v f).1 := by
  unfold State.actionVoice
  split <;> exact .refl s

theorem State.actionOutput_keeps (k v : Nat) : Keeps s (s.actionOutput k v).1 := by
  unfold State.actionOutput
  split
  · exact .refl s
  · exact State.setOutput_keeps _ _ _

theorem State.carryOut_keeps (run d : Nat) (b : ActionBody) (f : Option Skip) (p : Option PageField) :
    Keeps s (s.carryOut run d b f p).1 := by
  unfold State.carryOut
  split
  · exact .refl s
  · split
    · exact State.skipFail_keeps s (State.applyFade_keeps _ _ _ _ _ _ _)
    · exact State.skipFail_keeps s (State.applySetLevel_keeps _ _ _ _)
    · exact State.skipFail_keeps s (State.applySetContrib_keeps _ _ _ _ _ _ _ _)
    · exact State.skipFail_keeps s (State.applyRemoveContrib_keeps _ _ _ _ _ _)
    · exact State.actionVoice_keeps _ _ _ _
    · exact State.skipFail_keeps s (State.applyStopVoice_keeps _ _ _ _)
    · exact State.actionRecall_keeps _ _ _ _
    · exact State.actionPage_keeps _ _
    · exact State.actionOutput_keeps _ _ _
    · exact State.report_keeps _ _ _ _ _ _

theorem State.execute_keeps (run d a : Nat) (b : ActionBody) (f : Option Skip) (p : Option PageField) :
    Keeps s (s.execute run d a b f p) := by
  have h := State.carryOut_keeps s run d b f p
  unfold State.execute
  split
  · rename_i e; rw [e] at h; exact h
  · rename_i e; rw [e] at h; exact h.then (State.report_keeps _ _ _ _ _ _)

theorem State.runDueAction_keeps (q : Queued) : Keeps s (s.runDueAction q) := by
  refine Adds.then (Adds.then (t := { s with ce := { s.ce with queue := s.ce.queue.drop 1 } }) ?_
    (State.execute_keeps _ _ _ _ _ _ _)) (State.examineRun_keeps _ _)
  exact State.lessCe_keeps _ le_rfl (by simp)

/-! ### Triggers -/

theorem insertQueued_length (q : Queued) (d : Nat) (l : List Queued) :
    (insertQueued q d l).length = l.length + 1 := by
  induction l with
  | nil => rfl
  | cons x xs ih =>
    unfold insertQueued
    split
    · split
      · simp [ih]
      · simp
    · simp [ih]

theorem State.makeRun_keeps (c : Cue) : Keeps s (s.makeRun c).1 := by
  have h0 : ∀ n, Keeps s ({ s with ce := { s.ce with runCounter := n } } : State) := fun n =>
    State.setCe_keeps _ (by rfl) (by rfl)
  have key : ∀ (t : State) (x : Run), Keeps s t → (s.ce.runs.length ≤ 8 → t.ce.runs.length < 8) →
      Keeps s { t with ce := { t.ce with runs := t.ce.runs ++ [x] } } := by
    intro t x h hr
    exact { h with runs := fun hs => by have := hr hs; simp; omega }
  unfold State.makeRun
  simp only
  refine key _ _ ?_ ?_
  · split
    · split
      · exact (h0 _).then (State.retire_keeps _ _)
      · exact h0 _
    · exact h0 _
  · intro hs
    split
    · rename_i r rest e
      split
      · rw [State.retire_runs]
        have hlt : (s.ce.runs.filter fun x => !(x.number == r.number)).length < s.ce.runs.length :=
          List.length_filter_lt_length_iff_exists.2 ⟨r, by rw [e]; simp, by simp⟩
        simp only
        omega
      · rename_i hn
        simp only [Config.runCapacity] at hn ⊢
        omega
    · rename_i e; simp [e]

theorem State.handOver_keeps (fire : Bool) (run : Nat) (c : Cue) : Keeps s (s.handOver fire run c) :=
  keeps_foldl (fun t p => by
    simp only
    split
    · exact .refl t
    · split
      · exact State.setVoice_keeps _ _ _
      · exact .refl t) _ _

/-- A voice is timed if its action is a START_VOICE that has not failed. -/
theorem timeOf_keeps (b : ActionBody) (f : Option Skip) (run : Nat) (x : VStart) {t : State} (h : Keeps s t) :
    Keeps s (match b, f with | .startVoice v _, none => t.timeVoice v run x | _, _ => t) := by
  split
  · exact h.then (State.timeVoice_keeps _ _ _ _)
  · exact h

theorem State.zeroDelay_keeps (run : Nat) (c : Cue) (x : Nat × Action) : Keeps s (State.zeroDelay run c s x) :=
  timeOf_keeps s x.2.body (c.failedPrime x.1) run _ (State.execute_keeps _ _ _ _ _ _ _)

theorem State.enqueue_keeps (run : Nat) (c : Cue) (x : Nat × Action) : Keeps s (State.enqueue run c s x) := by
  unfold State.enqueue
  split
  · exact (State.report_keeps _ _ _ _ _ _).then (State.releaseAction_keeps _ _ _)
  · rename_i h
    refine timeOf_keeps s x.2.body (c.failedPrime x.1) run _ ?_
    refine { Adds.refl s with actions := fun _ => ?_ }
    simp only [insertQueued_length]
    simp only [Config.queueCapacity] at h
    omega

theorem State.moveOn_keeps (run : Nat) (c : Cue) : Keeps s (s.moveOn run c) := by
  unfold State.moveOn
  split
  · exact State.setCe_keeps _ (by rfl) (by rfl)
  · exact (State.setCe_keeps s (by rfl) (by rfl)).then (State.beginArming_keeps _ _ _)

theorem State.flash_keeps (x : Option Nat) : Keeps s { s with cu := { s.cu with flash := x } } :=
  .same rfl rfl rfl rfl rfl le_rfl rfl

theorem State.trigger_keeps (fire : Bool) (c : Cue) : Keeps s (s.trigger fire c) := by
  have h0 : ∀ b : Bool, Keeps s (if b then s else
      { s with ce := { s.ce with latched := none, follow := .idle } }) := by
    intro b; split
    · exact .refl s
    · exact State.setCe_keeps _ (by rfl) (by rfl)
  have h1 : ∀ (b : Bool) (t : State) (run : Nat), Keeps s t → Keeps s (if b then t else t.moveOn run c) := by
    intro b t run h; split
    · exact h
    · exact h.then (State.moveOn_keeps _ _ _)
  unfold State.trigger
  simp only
  refine Adds.then (h1 _ _ _ ?_) (State.examineRun_keeps _ _)
  exact (((((((h0 _).then (State.makeRun_keeps _ _)).then (State.handOver_keeps _ _ _ _)).then
    (keeps_foldl (fun t x => State.zeroDelay_keeps t _ _ x) _ _)).then
    (keeps_foldl (fun t x => State.enqueue_keeps t _ _ x) _ _)).then (State.report_keeps _ _ _ _ _ _)).then
    (State.flash_keeps _ _))

theorem State.triggerArmed_keeps : Keeps s s.triggerArmed := by
  unfold State.triggerArmed
  split
  · split
    · exact State.trigger_keeps _ _ _
    · exact .refl s
  · exact .refl s

theorem State.triggerFire_keeps (c : Cue) : Keeps s (s.triggerFire c) :=
  ((State.setCe_keeps s (by rfl) (by rfl)).then (State.trigger_keeps _ _ _)).then (State.finishJob_keeps _ _ _ _)

/-! ### Armings that complete -/

theorem State.armed_keeps (fire : Bool) (c : Cue) : Keeps s (s.armed fire c) := by
  unfold State.armed
  split
  · split
    · exact State.setCe_keeps _ (by rfl) (by rfl)
    · exact State.triggerFire_keeps _ _
  · have h : ∀ t : State, Keeps s t → Keeps s
        (if t.ce.latched.isSome ∨ t.ce.follow = .expired then t.triggerArmed else t) := by
      intro t ht; split
      · exact ht.then (State.triggerArmed_keeps _)
      · exact ht
    exact h _ (((State.setCe_keeps s (by rfl) (by rfl)).then (State.report_keeps _ _ _ _ _ _)).then
      (State.finishJob_keeps _ _ _ _))

theorem State.checkPrimes_keeps (fire : Bool) : Keeps s (s.checkPrimes fire) := by
  unfold State.checkPrimes
  split
  · exact .refl s
  · split
    · exact State.armed_keeps _ _ _
    · exact .refl s

theorem State.prime_keeps (fire : Bool) (c : Cue) : Keeps s (s.prime fire c) :=
  ((State.startPrimes_keeps s fire c).then (State.setArming_keeps _ _ _)).then (State.checkPrimes_keeps _ _)

theorem State.actionsRead_keeps (fire : Bool) (c : Cue) : Keeps s (s.actionsRead fire c) := by
  unfold State.actionsRead
  split
  · exact State.prime_keeps _ _ _
  · exact State.setArming_keeps _ _ _

theorem State.armData_keeps (fire : Bool) (a : Arming) (b : List Byte) : Keeps s (s.armData fire a b) := by
  unfold State.armData
  split
  · simp only
    split
    · exact State.bookFault_keeps _ _ _ _
    · exact State.setArming_keeps _ _ _
  · split
    · exact State.bookFault_keeps _ _ _ _
    · rename_i c _
      have h : Keeps s (if fire then s else s.startFollow c) := by
        split
        · exact .refl s
        · exact State.startFollow_keeps _ _
      simp only
      split
      · exact h.then (State.prime_keeps _ _ _)
      · exact h.then (State.setArming_keeps _ _ _)
  · split
    · exact State.bookFault_keeps _ _ _ _
    · split
      · exact State.actionsRead_keeps _ _ _
      · exact State.setArming_keeps _ _ _
  · exact .refl s
  · simp only
    split
    · exact State.prime_keeps _ _ _
    · exact State.setArming_keeps _ _ _
  · exact .refl s

theorem State.armReturn_keeps (fire : Bool) (d : ReadData) : Keeps s (s.armReturn fire d) := by
  unfold State.armReturn
  split
  · exact State.dropRead_keeps _ _ _
  · split
    · exact .refl s
    · split
      · exact State.dropRead_keeps _ _ _
      · split
        · exact State.dropRead_keeps _ _ _
        · have h := State.freeSlot_keeps s (.arming fire true)
          simp only
          split
          · exact h.then (State.armData_keeps _ _ _ _)
          · split
            · exact (h.then (State.windowFault_keeps _ _ _)).then (State.bookFault_keeps _ _ _ _)
            · exact h

theorem State.primeNotice_keeps (fire : Bool) (v : Nat) (x : PrimeStatus) : Keeps s (s.primeNotice fire v x) := by
  unfold State.primeNotice
  split
  · exact .refl s
  · exact (State.setArming_keeps _ _ _).then (State.checkPrimes_keeps _ _)

/-! ### GO, trigger lines and the freeze condition -/

theorem State.goFrom_keeps (src : GoSource) : Keeps s (s.goFrom src).1 := by
  unfold State.goFrom
  split
  · exact State.goIgnored_keeps _ _ _
  · split
    · exact State.triggerArmed_keeps _
    · split
      · exact State.goIgnored_keeps _ _ _
      · exact State.setCe_keeps _ (by rfl) (by rfl)
    all_goals exact State.goIgnored_keeps _ _ _

theorem State.triggerLine_keeps (n : Nat) : Keeps s (s.triggerLine n) := by
  unfold State.triggerLine
  split
  · split
    · exact State.triggerArmed_keeps _
    · exact .refl s
  · exact .refl s

theorem State.expireFollow_keeps : Keeps s s.expireFollow :=
  (State.setFollow_keeps s _).then (State.triggerArmed_keeps _)

theorem State.mapDue_keeps (f : When → When) (g : Since → Since) : Keeps s (s.mapDue f g) :=
  State.lessCe_keeps _ le_rfl (by simp)

theorem State.retimeVoices_keeps : Keeps s s.retimeVoices :=
  keeps_foldl (fun t (q : Queued) => timeOf_keeps t q.body q.failed q.run _ (.refl t)) _ _

theorem State.freezeStart_keeps : Keeps s s.freezeStart :=
  ((((State.markFrozen_keeps s true).then (State.mapDue_keeps _ _ _)).then (State.retimeVoices_keeps _)).then
    (State.discardLatch_keeps _ _)).then (State.repause_keeps _)

theorem State.fireWaiting_keeps : Keeps s s.fireWaiting := by
  unfold State.fireWaiting
  split
  · split
    · exact State.triggerFire_keeps _ _
    · exact .refl s
  · exact .refl s

theorem State.followExpiredNow_keeps : Keeps s s.followExpiredNow := by
  unfold State.followExpiredNow
  split
  · exact State.triggerArmed_keeps _
  · exact .refl s

theorem State.takeHeldBack_keeps : Keeps s s.takeHeldBack := by
  unfold State.takeHeldBack
  simp only
  split
  · have h : Keeps s { s with choices := s.choices + 1 } := .same rfl rfl rfl rfl rfl le_rfl rfl
    split
    · exact (h.then (State.fireWaiting_keeps _)).then (State.followExpiredNow_keeps _)
    · exact (h.then (State.followExpiredNow_keeps _)).then (State.fireWaiting_keeps _)
  · exact (State.followExpiredNow_keeps _).then (State.fireWaiting_keeps _)

theorem State.freezeEnd_keeps : Keeps s s.freezeEnd :=
  ((((State.mapDue_keeps s _ _).then (State.retimeVoices_keeps _)).then (State.markFrozen_keeps _ _)).then
    (State.repause_keeps _)).then (State.takeHeldBack_keeps _)

theorem State.afterFreeze_keeps (was : Bool) : Keeps s (s.afterFreeze was) := by
  unfold State.afterFreeze
  split
  · exact State.freezeStart_keeps _
  · exact State.freezeEnd_keeps _
  · exact .refl s

theorem State.setHold_keeps (v : Bool) : Keeps s (s.setHold v) :=
  (State.setCe_keeps s (by rfl) (by rfl)).then (State.afterFreeze_keeps _ _)

/-! ### Commands -/

/-- A command that may stay in flight. -/
theorem State.loadBook_adds (r b : Link) (n : Nat) : Adds 0 1 s (s.loadBook r b n) := by
  unfold State.loadBook
  split
  · exact (State.finish_keeps _ _ _ _ _).mono le_rfl (by omega)
  · exact Adds.after ((((State.abandonSeq_keeps s).then (State.abandonFire_keeps _)).then
      (State.setCe_keeps _ (by rfl) (by rfl))).then (State.beginArming_keeps _ _ _)) (State.hold_adds _ _ _ _ _)

theorem State.gotoCue_adds (r : Link) (n : Nat) : Adds 0 1 s (s.gotoCue r n) := by
  unfold State.gotoCue
  split
  · exact (State.finish_keeps _ _ _ _ _).mono le_rfl (by omega)
  · split
    · exact (State.finish_keeps _ _ _ _ _).mono le_rfl (by omega)
    · exact Adds.after ((State.abandonSeq_keeps s).then (State.beginArming_keeps _ _ _)) (State.hold_adds _ _ _ _ _)

theorem State.fireCommand_adds (r : Link) (n : Nat) : Adds 0 1 s (s.fireCommand r n) := by
  unfold State.fireCommand
  split
  · exact (State.finish_keeps _ _ _ _ _).mono le_rfl (by omega)
  · split
    · exact (State.finish_keeps _ _ _ _ _).mono le_rfl (by omega)
    · split
      · exact (State.finish_keeps _ _ _ _ _).mono le_rfl (by omega)
      · exact Adds.after (State.beginArming_keeps _ _ _) (State.hold_adds _ _ _ _ _)

theorem State.stopCueFade_keeps (f : Fade) : Keeps s (s.stopCueFade f) := by
  have h : Keeps s (s.setFades (withoutFade s.lv.fades f.target)) :=
    State.setFades_keeps _ (List.length_filter_le _ _)
  unfold State.stopCueFade
  simp only
  split
  · exact h.then (State.revive_keeps _ _)
  · exact h

theorem State.stopCueVoices_keeps : Keeps s ((oneTo 64).foldl (fun s v =>
    if isRunOwner (s.voice v).owner then s.stopVoice v .cut else s) s) :=
  keeps_foldl (fun t v => by
    split
    · exact State.stopVoice_keeps _ _ _
    · exact .refl t) _ _

theorem State.followOff_keeps (f : Follow) (p : Option Pred) :
    Keeps s { s with ce := { s.ce with follow := f, pred := p } } := State.setCe_keeps s rfl rfl

theorem State.stopCues_keeps : Keeps s s.stopCues := by
  unfold State.stopCues
  exact ((((((State.fewerActions_keeps s (l := []) (by simp)).then
    (keeps_foldl (fun t (q : Queued) => State.releaseAction_keeps t q.run q.body) _ _)).then
    (keeps_foldl State.stopCueFade_keeps _ _)).then (State.fewerRuns_keeps _ (l := []) (by simp))).then
    (State.stopCueVoices_keeps _)).then (State.abandonFire_keeps _)).then (State.followOff_keeps _ _ _)

theorem State.voiceActionDone_keeps (v run : Nat) : Keeps s (s.voiceActionDone v run) := by
  unfold State.voiceActionDone
  simp only
  split
  · exact (State.fewerActions_keeps s List.length_eraseP_le).then (State.examineRun_keeps _ _)
  · exact .refl s

end

end Sys2Proof.Machine
end

