-- ==== Sys2Proof/Laws/KeepsStep.lean ====
section
/-! SUPPORT. What the interlock, the contacts, the clock, the commands, the memory link's operations and the
events of time keep: CAUSE bits stay set, and no capacity is exceeded. -/

namespace Sys2Proof.Machine

section
variable (s : State)

/-! ### Interlock -/

/-- Fields of the interlock, whatever they become. -/
theorem State.il_keeps (x : Il) : Keeps s { s with il := x } := .same rfl rfl rfl rfl rfl le_rfl rfl

theorem State.interlockOn_keeps (f : IlState) (n : Nat) : Keeps s (s.interlockOn f n) :=
  ((State.il_keeps s _).then (State.report_keeps _ _ _ _ _ _)).then (State.setCause_keeps _ _)

theorem State.activate_keeps : Keeps s s.activate := by
  have h : ∀ (l : List Target) (x : Il), Keeps s
      (l.foldl (fun s t => s.fadeTo t off 250 .linear .interlock) { s with il := x }) := fun l x =>
    (State.il_keeps s x).then (keeps_foldl (fun t y => State.fadeTo_keeps t y _ _ _ _ _) l _)
  have k : ∀ (t : State) (b : Bool) (f : IlState), Keeps s t →
      Keeps s (((t.endLowPages.1.afterFreeze b).repause).interlockOn f t.endLowPages.2) := fun t b f ht =>
    (((ht.then (State.endLowPages_keeps t)).then (State.afterFreeze_keeps _ b)).then
      (State.repause_keeps _)).then (State.interlockOn_keeps _ f _)
  unfold State.activate
  generalize interlockTargets = l
  exact k _ _ _ (h l _)

theorem State.interlockActivation_keeps : Keeps s s.interlockActivation := by
  unfold State.interlockActivation
  split
  · exact State.activate_keeps _
  · exact State.activate_keeps _
  · exact (State.setIl_keeps _ _).then (State.interlockOn_keeps _ _ _)
  · exact .refl s

theorem State.interlockDeactivation_keeps : Keeps s s.interlockDeactivation := by
  unfold State.interlockDeactivation
  split
  · exact (State.setIl_keeps _ _).then (State.report_keeps _ _ _ _ _ _)
  · exact .refl s

theorem State.checkResumed_keeps : Keeps s s.checkResumed := by
  unfold State.checkResumed
  split
  · exact (State.setIl_keeps _ _).then (State.report_keeps _ _ _ _ _ _)
  · exact .refl s

theorem State.resumeTarget_keeps (x : Target) : Keeps s (s.resumeTarget x) := by
  unfold State.resumeTarget
  have h := State.fadeOrSet_keeps s x 0 s.il.resumeTime .linear .interlock
  simp only
  split
  · exact h.then (State.il_keeps _ _)
  · exact h

theorem State.beginResume_keeps : Keeps s s.beginResume := by
  unfold State.beginResume
  exact ((((State.il_keeps s _).then (keeps_foldl State.resumeTarget_keeps _ _)).then
    (State.afterFreeze_keeps _ _)).then (State.repause_keeps _)).then (State.checkResumed_keeps _)

theorem State.interlockNotice_keeps (x : Target) (c : FadeCause) : Keeps s (s.interlockNotice x c) := by
  unfold State.interlockNotice
  split
  · exact (State.il_keeps s _).then (State.checkResumed_keeps _)
  · exact .refl s

theorem State.applyResume_keeps (t : Option Nat) : KeepsOk s (s.applyResume t) := by
  unfold State.applyResume
  simp only
  split
  · exact keepsOk_error _ _
  · exact keepsOk_ok _ ((State.il_keeps s _).then (State.beginResume_keeps _))
  · exact keepsOk_ok _ (State.il_keeps s _)

/-! ### Contact unit -/

/-- Fields of the contact unit other than its routes. -/
theorem State.setCu_keeps {c : Cu} (h : c.routes = s.cu.routes) : Keeps s { s with cu := c } :=
  .same rfl rfl rfl rfl rfl le_rfl h

/-- As many routes. -/
theorem State.setRoutes_keeps {l : List Route} (h : s.cu.routes.length ≤ 20 → l.length ≤ 20) :
    Keeps s (s.setRoutes l) := { Adds.refl s with routes := h }

theorem State.deliver_keeps (f : Func) (c : Nat) (b : Bool) : Keeps s (s.deliver f c b) := by
  unfold State.deliver
  split
  · exact State.goFrom_keeps _ _
  · exact State.triggerLine_keeps _ _
  · exact State.report_keeps _ _ _ _ _ _
  · exact State.setHold_keeps _ _
  · exact State.setTalkFn_keeps _ _
  · exact State.pressPage_keeps _ _
  · exact State.endPage_keeps _ _ _ _
  · exact State.interlockActivation_keeps _
  · exact State.interlockDeactivation_keeps _
  · exact .refl s

theorem State.followInput_keeps (f : Func) : Keeps s (s.followInput f) := by
  unfold State.followInput
  split
  · exact .refl s
  · simp only
    split
    · exact .refl s
    · exact (State.setRoutes_keeps s (by simp [setActive])).then (State.deliver_keeps _ _ _ _)

theorem State.firePattern_keeps (m : Nat) : Keeps s (s.firePattern m) := by
  unfold State.firePattern
  have h : ∀ (a : PatternAction) (t : State), Keeps s t → Keeps s (match a with
      | .report => t
      | .go => (t.goFrom .pattern).1
      | .trig n => t.triggerLine n) := by
    intro a t ht
    cases a with
    | report => exact ht
    | go => exact ht.then (State.goFrom_keeps _ _)
    | trig n => exact ht.then (State.triggerLine_keeps _ _)
  exact h _ _ (State.report_keeps _ _ _ _ _ _)

theorem State.watch_keeps (c : Nat) : Keeps s (s.watch c) := by
  unfold State.watch
  split
  · exact .refl s
  · split
    · exact .refl s
    · split
      · exact State.firePattern_keeps _ _
      · exact .refl s
    · have h : Keeps s { s with cu := { s.cu with equal := s.patternEqual } } := State.setCu_keeps s rfl
      simp only
      split
      · exact h.then (State.firePattern_keeps _ _)
      · exact h

theorem State.inputChange_keeps (c w : Nat) (l : List Nat) : Keeps s (s.inputChange c w l) :=
  (((State.setInput_keeps s _ _).then (keeps_foldl State.followInput_keeps _ _)).then (State.watch_keeps _ _)).then
    (keeps_foldl State.followInput_keeps _ _)

theorem State.debounce_keeps (raw : BitVec 24) : Keeps s (s.debounce raw) :=
  keeps_foldl (fun t _ => State.setInput_keeps t _ _) _ _

theorem State.firstInputs_keeps (raw : BitVec 24) : Keeps s (s.firstInputs raw) :=
  keeps_foldl (fun t _ => State.setInput_keeps t _ _) _ _

theorem State.unroute_keeps (f : Func) : Keeps s (s.unroute f).1 := by
  unfold State.unroute
  split
  · exact .refl s
  · exact State.setRoutes_keeps s (List.length_filter_le _ _).trans

theorem State.route_keeps (f : Func) (c : Nat) (p : Polarity)
    (room : s.cu.routes.any (·.fn == f) = true ∨ s.cu.routes.length < 20) : Keeps s (s.route f c p).1 := by
  have h : ∀ r : Route, r.fn = f → Keeps s (s.setRoutes (writeRoute s.cu.routes r)) := by
    intro r hr
    refine State.setRoutes_keeps s fun hl => ?_
    unfold writeRoute
    rw [hr]
    split
    · simpa using hl
    · rename_i hn
      rcases room with k | k
      · exact absurd k hn
      · simp; omega
  exact h ⟨f, c, p, _⟩ rfl

theorem State.deliverOwed_keeps (o : Owed) : Keeps s (s.deliverOwed o) := by
  unfold State.deliverOwed
  split
  · exact State.deliver_keeps _ _ _ _
  · exact .refl s

theorem State.applySetRoute_keeps (f c p : Nat) : KeepsOk s (s.applySetRoute f c p) := by
  unfold State.applySetRoute
  split
  · split
    · exact keepsOk_error _ _
    · split
      · exact keepsOk_ok _ (State.unroute_keeps _ _)
      · split
        · exact keepsOk_error _ _
        · split
          · exact keepsOk_error _ _
          · rename_i fn pol _ _ _ _ _ hn
            refine keepsOk_ok _ (State.route_keeps _ _ _ _ ?_)
            by_cases k : s.cu.routes.length < 20
            · exact .inr k
            · refine .inl ?_
              by_contra hc
              refine hn ⟨?_, by simp [Config.routeCapacity]; omega⟩
              simpa using hc
  · exact keepsOk_error _ _

theorem cmdSetRoute_keeps (r : Link) (f c p : Nat) : Keeps s (cmdSetRoute r f c p s) := by
  have h := State.applySetRoute_keeps s f c p
  unfold cmdSetRoute
  split
  · rename_i t owed ht
    exact ((h _ ht).then (State.finish_keeps _ _ _ _ _)).then (State.deliverOwed_keeps _ _)
  · exact State.finish_keeps _ _ _ _ _

theorem State.applySetInput_keeps (c : Nat) (d a b : Option Nat) : KeepsOk s (s.applySetInput c d a b) := by
  unfold State.applySetInput
  split
  · exact keepsOk_error _ _
  · exact keepsOk_ok _ (State.setInput_keeps _ _ _)

theorem State.applySetPattern_keeps (m : Nat) (x y : BitVec 16) (a l : Nat) :
    KeepsOk s (s.applySetPattern m x y a l) := by
  unfold State.applySetPattern
  split
  · exact keepsOk_ok _ (State.setCu_keeps s rfl)
  · exact keepsOk_error _ _

theorem State.applySetOutput_keeps (k c g : Nat) : KeepsOk s (s.applySetOutput k c g) := by
  unfold State.applySetOutput
  split
  · exact keepsOk_error _ _
  · split
    · exact keepsOk_error _ _
    · exact keepsOk_ok _ (State.setOutput_keeps _ _ _)

/-! ### Clock unit -/

theorem State.takeBoundary_keeps : Keeps s s.takeBoundary := by
  unfold State.takeBoundary
  split
  · exact State.setCk_keeps _ _
  · exact .refl s

theorem State.changeover_keeps (e : Bool) : Keeps s (s.changeover e) := by
  have h : ∀ t : State, Keeps s t → Keeps s (if t.ck.selected = e then t else
      t.setCk { t.ck with selected := e, changeovers := (t.ck.changeovers + 1) % 2 ^ 32,
                          silentNext := some (nextBoundary t.ck.now) }) := by
    intro t ht; split
    · exact ht
    · exact ht.then (State.setCk_keeps _ _)
  exact h _ (State.takeBoundary_keeps s)

theorem State.postChangeover_keeps (c : Nat) (d : Int) : Keeps s (s.postChangeover c d) :=
  State.report_keeps _ _ _ _ _ _

theorem State.fallBack_keeps (c : Nat) (d : Int) : Keeps s (s.fallBack c d) :=
  (((State.setClockState_keeps s _).then (State.changeover_keeps _ _)).then
    (State.postChangeover_keeps _ _ _)).then (State.setCause_keeps _ _)

theorem State.beginAcquire_keeps : Keeps s s.beginAcquire := State.setCk_keeps _ _

theorem State.relocked_keeps (d : Int) : Keeps s (s.relocked d) :=
  (((State.setClockState_keeps s _).then (State.changeover_keeps _ _)).then
    (State.report_keeps _ _ _ _ _ _)).then (State.finishJob_keeps _ _ _ _)

theorem State.acquireWindow_keeps (d : Int) : Keeps s (s.acquireWindow d) := by
  unfold State.acquireWindow
  split
  · exact State.setCk_keeps _ _
  · split
    · have h := State.setCk_keeps s { s.ck with good := s.ck.good + 1 }
      simp only
      split
      · exact h.then (State.relocked_keeps _ _)
      · exact h
    · exact State.setCk_keeps _ _

theorem State.judgeWindow_keeps (d : Int) : Keeps s (s.judgeWindow d) := by
  unfold State.judgeWindow
  split
  · split
    · exact .refl s
    · split
      · exact (State.setClockState_keeps _ _).then (State.report_keeps _ _ _ _ _ _)
      · exact State.fallBack_keeps _ _ _
  · split
    · exact State.setClockState_keeps _ _
    · split
      · exact .refl s
      · exact State.fallBack_keeps _ _ _
  · exact State.acquireWindow_keeps _ _
  · exact .refl s
  · exact .refl s

theorem State.windowEnd_keeps : Keeps s s.windowEnd := (State.setCk_keeps s _).then (State.judgeWindow_keeps _ _)

theorem State.lossEvent_keeps : Keeps s s.lossEvent := by
  unfold State.lossEvent
  split
  · exact .refl s
  · have h := State.setCk_keeps s { s.ck with lossRaised := true }
    simp only
    split
    · exact h.then (State.fallBack_keeps _ _ _)
    · exact h.then (State.fallBack_keeps _ _ _)
    · exact h

theorem State.applyClockLimits_keeps (w c h : Option Nat) : Keeps s (s.applyClockLimits w c h).1 :=
  State.setCk_keeps _ _

theorem State.acquire_keeps : Keeps s s.acquire := by
  unfold State.acquire
  split
  · exact State.beginAcquire_keeps _
  · exact State.beginAcquire_keeps _
  · exact .refl s

/-- What adds nothing adds at most one command. -/
theorem Adds.orCommand {s t : State} (h : Keeps s t) : Adds 0 1 s t := h.mono le_rfl (by omega)

theorem State.relock_adds (r : Link) : Adds 0 1 s (s.relock r) := by
  unfold State.relock
  split
  · exact (State.finish_keeps _ _ _ _ _).orCommand
  · exact (State.finish_keeps _ _ _ _ _).orCommand
  · exact Adds.after (State.acquire_keeps s) (State.hold_adds _ _ _ _ _)

theorem State.selectInternal_keeps : Keeps s s.selectInternal := by
  have h := ((State.setClockState_keeps s .intSelected).then (State.changeover_keeps _ false)).then
    (State.postChangeover_keeps _ 2 0)
  unfold State.selectInternal
  split
  · exact h
  · exact h
  · exact (State.setClockState_keeps _ _).then (State.finishJob_keeps _ _ _ _)
  · exact State.setClockState_keeps _ _
  · exact .refl s

theorem State.applySelectClock_keeps (v : Nat) : KeepsOk s (s.applySelectClock v) := by
  unfold State.applySelectClock
  split
  · exact keepsOk_ok _ (State.selectInternal_keeps _)
  · exact keepsOk_ok _ (State.acquire_keeps _)
  · exact keepsOk_error _ _

/-! ### Notices -/

theorem State.notice_keeps (x : Notice) : Keeps s (s.notice x) := by
  unfold State.notice
  split
  · exact State.examineRun_keeps _ _
  · exact State.duckNotice_keeps _ _ _
  · exact State.interlockNotice_keeps _ _ _
  · exact .refl s
  · exact .refl s
  · exact .refl s
  · exact State.primeNotice_keeps _ _ _ _
  · exact State.primeNotice_keeps _ _ _ _
  · exact State.pageStarted_keeps _ _ _
  · exact .refl s
  · exact State.pageVoiceEnded_keeps _ _ _ _
  · exact State.scan_keeps _

/-- The queue and the notices, whatever they become. -/
theorem State.notices_keeps (l : List Notice) : Keeps s { s with notices := l } :=
  .same rfl rfl rfl rfl rfl le_rfl rfl

theorem State.settleN_keeps (n : Nat) (s : State) : Keeps s (State.settleN n s) := by
  induction n generalizing s with
  | zero => exact .refl s
  | succ n ih =>
    unfold State.settleN
    split
    · exact .refl s
    · exact ((State.notices_keeps s _).then (State.notice_keeps _ _)).then (ih _)

theorem State.settle_keeps : Keeps s s.settle := State.settleN_keeps _ s

/-! ### Commands -/

theorem State.applySetSource_keeps (c m : Nat) : KeepsOk s (s.applySetSource c m) := by
  unfold State.applySetSource
  split
  · exact keepsOk_error _ _
  · exact keepsOk_ok _ (.same rfl rfl rfl rfl rfl le_rfl rfl)

theorem State.applySetBus_keeps (b : Nat) (m : Option Nat) (c : Nat) : KeepsOk s (s.applySetBus b m c) := by
  unfold State.applySetBus
  simp only
  split
  · exact keepsOk_error _ _
  · exact keepsOk_ok _ (State.setBus_keeps _ _ _)

theorem cmdStartVoice_adds (r : Link) (v : Nat) (d : DescField) (n : Nat) :
    Adds 0 1 s (cmdStartVoice r v d n s) := by
  unfold cmdStartVoice
  split
  · exact (State.finish_keeps _ _ _ _ _).orCommand
  · split
    · exact (State.finish_keeps _ _ _ _ _).orCommand
    · simp only
      split
      · exact (State.finish_keeps _ _ _ _ _).orCommand
      · rename_i h
        exact Adds.after (State.requestStart_keeps s _ _ _ h) (State.hold_adds _ _ _ _ _)

theorem cmdTeardownVoice_adds (r : Link) (v : Nat) : Adds 0 1 s (cmdTeardownVoice r v s) := by
  unfold cmdTeardownVoice
  split
  · exact (State.finish_keeps _ _ _ _ _).orCommand
  · split
    · exact (State.finish_keeps _ _ _ _ _).orCommand
    · split
      · exact (State.finish_keeps _ _ _ _ _).orCommand
      · exact (State.hold_adds s _ _ _ _).then (State.teardown_keeps _ _)

/-- Fields of the voice unit, whatever they become. -/
theorem State.vu_keeps (x : Vu) : Keeps s { s with vu := x } := .same rfl rfl rfl rfl rfl le_rfl rfl

theorem State.tellIf_keeps (b : Bool) (x : Notice) {t : State} (h : Keeps s t) :
    Keeps s (if b then t.tell x else t) := by
  split
  · exact h.then (State.tell_keeps _ _)
  · exact h

theorem State.applySetReserve_keeps (x : BitVec 64) : KeepsOk s (s.applySetReserve x) := by
  unfold State.applySetReserve
  split
  · exact keepsOk_error _ _
  · exact keepsOk_ok _ (State.tellIf_keeps s _ _ (State.vu_keeps s _))

theorem State.applySetSchedule_keeps (n : Nat) (l : List Nat) : KeepsOk s (s.applySetSchedule n l) := by
  unfold State.applySetSchedule
  split
  · exact keepsOk_error _ _
  · split
    · exact keepsOk_error _ _
    · exact keepsOk_ok _ (State.tellIf_keeps s _ _ (State.vu_keeps s _))

theorem State.commandRecall_adds (r l : Link) (d w : Nat) : Adds 0 1 s (s.commandRecall r l d w) := by
  unfold State.commandRecall
  split
  · rename_i h
    exact Adds.after (State.acceptRecall_keeps s _ _ _ _ h) (State.hold_adds _ _ _ _ _)
  · exact (State.finish_keeps _ _ _ _ _).orCommand
  · exact (State.finish_keeps _ _ _ _ _).orCommand

/-- Fields of the memory link other than CAUSE, the slots, the queue and the commands in flight. -/
theorem State.ml_same {m : Ml} (c : m.cause = s.ml.cause) (r : m.slots = s.ml.slots) (q : m.queue = s.ml.queue)
    (f : m.inflight = s.ml.inflight) : Keeps s { s with ml := m } :=
  State.ml_keeps s (.same c (by rw [r]) (by rw [q]) (by rw [f]))

theorem cmdLoadWindows_adds (r : Link) (a : Wide) (n : Nat) : Adds 0 1 s (cmdLoadWindows r a n s) := by
  unfold cmdLoadWindows
  split
  · exact (State.finish_keeps _ _ _ _ _).orCommand
  · exact (State.hold_adds s r 36 .loadWindows false).then (State.ml_same _ rfl rfl rfl rfl)

theorem State.applyClearFlags_keeps (x : BitVec 8) : KeepsOk s (s.applyClearFlags x) := by
  unfold State.applyClearFlags
  split
  · exact keepsOk_error _ _
  · have h : ∀ (b : Bool), Keeps s (if b then
        { s with mx := { s.mx with buses := s.mx.buses.map fun u => { u with clamp := false } } } else s) := by
      intro b; split
      · exact .same rfl rfl rfl rfl rfl le_rfl rfl
      · exact .refl s
    have k : ∀ (b : Bool) (t : State), Keeps s t → Keeps s (if b then
        { t with cu := { t.cu with inputs := t.cu.inputs.map fun x => { x with edge := false } } } else t) := by
      intro b t ht; split
      · exact ht.then (State.setCu_keeps t rfl)
      · exact ht
    exact keepsOk_ok _ (k _ _ (h _))

theorem State.answer_adds (r : Link) {x : Except Fail (State × Bool)} (h : KeepsOk s x) :
    Adds 0 1 s (s.answer r x) := (State.answer_keeps s r h).orCommand

/-- A command handed on adds at most one command in flight. -/
theorem State.runCommand_adds (i : Instr) : Adds 0 1 s (State.runCommand i s) := by
  unfold State.runCommand
  split
  · exact State.answer_adds s _ (State.applySetLevel_keeps _ _ _ _)
  · exact State.answer_adds s _ (State.applyFade_keeps _ _ _ _ _ _ _)
  · exact State.answer_adds s _ (State.applyStopFade_keeps _ _)
  · exact State.answer_adds s _ (State.applySetSource_keeps _ _ _)
  · exact State.answer_adds s _ (State.applySetBus_keeps _ _ _ _)
  · exact State.answer_adds s _ (State.applySetContrib_keeps _ _ _ _ _ _ _ _)
  · exact State.answer_adds s _ (State.applyRemoveContrib_keeps _ _ _ _ _ _)
  · exact cmdStartVoice_adds _ _ _ _ _
  · exact State.answer_adds s _ (State.applyStopVoice_keeps _ _ _ _)
  · exact cmdTeardownVoice_adds _ _ _
  · exact State.answer_adds s _ (State.applySetReserve_keeps _ _)
  · exact State.answer_adds s _ (State.applySetSchedule_keeps _ _ _)
  · exact State.loadBook_adds _ _ _ _
  · exact State.gotoCue_adds _ _ _
  · exact ((State.goFrom_keeps s .command).then (State.finish_keeps _ _ _ _ _)).orCommand
  · exact ((State.setHold_keeps s _).then (State.finish_keeps _ _ _ _ _)).orCommand
  · exact ((State.setHold_keeps s _).then (State.finish_keeps _ _ _ _ _)).orCommand
  · exact State.fireCommand_adds _ _ _
  · exact ((State.stopCues_keeps s).then (State.finish_keeps _ _ _ _ _)).orCommand
  · exact State.answer_adds s _ (State.applySetFoldback_keeps _ _ _)
  · exact State.commandRecall_adds _ _ _ _ _
  · exact State.answer_adds s _ (State.applyTalk_keeps _ _)
  · exact State.answer_adds s _ (State.applySetZone_keeps _ _ _)
  · exact State.answer_adds s _ (State.applySetButton_keeps _ _ _ _)
  · exact (State.startPage_keeps _ _ _).orCommand
  · exact State.answer_adds s _ (State.applyEndPage_keeps _ _)
  · exact State.answer_adds s _ (State.applyCancelPage_keeps _ _)
  · exact State.answer_adds s _ (State.applyResume_keeps _ _)
  · exact (cmdSetRoute_keeps s _ _ _ _).orCommand
  · exact State.answer_adds s _ (State.applySetInput_keeps _ _ _ _ _)
  · exact State.answer_adds s _ (State.applySetPattern_keeps _ _ _ _ _ _)
  · exact State.answer_adds s _ (State.applySetOutput_keeps _ _ _ _)
  · exact State.answer_adds s _ (keepsOk_ok s (State.applyClockLimits_keeps s _ _ _))
  · exact State.answer_adds s _ (State.applySelectClock_keeps _ _)
  · exact State.relock_adds _ _
  · exact cmdLoadWindows_adds _ _ _ _
  · exact State.answer_adds s _ (keepsOk_ok s (State.ml_same s rfl rfl rfl rfl))
  · exact State.answer_adds s _ (State.applyClearFlags_keeps _ _)
  · exact State.answer_adds s _ (keepsOk_ok s (State.report_keeps _ _ _ _ _ _))
  · exact (Adds.refl s).orCommand

theorem Ml.afterTake_keeps (m : Ml) : MlKeeps m m.afterTake := by
  unfold Ml.afterTake
  split
  · exact .same rfl le_rfl le_rfl le_rfl
  · exact Ml.beginLook_keeps _

theorem State.handed_adds {f : State → State} (h : Adds 0 1 s (f s)) : Adds 0 1 s (s.handed f) :=
  (h.then (State.settle_keeps _)).then (State.ml_keeps _ (Ml.afterTake_keeps _))

end

end Sys2Proof.Machine
end

