-- ==== Sys2Proof/Laws/KeepsLink.lean ====
section
/-! SUPPORT. What the memory link's larger operations and the events of time keep: CAUSE bits stay set, and no
capacity is exceeded. -/

namespace Sys2Proof.Machine

/-- From `s` to `t` the capacities hold on, and CAUSE bits stay. -/
structure Holds (s t : State) : Prop where
  capacity : s.WithinCapacity → t.WithinCapacity
  cause : s.CauseStays t

theorem Holds.refl (s : State) : Holds s s := ⟨id, fun _ h => h⟩

theorem Holds.trans {s t u : State} (h : Holds s t) (k : Holds t u) : Holds s u :=
  ⟨k.capacity ∘ h.capacity, fun i hi => k.cause i (h.cause i hi)⟩

/-- An addition for which there is room. -/
theorem Adds.holds {a b : Nat} {s t : State} (h : Adds a b s t) (r : a = 0 ∨ s.ml.slots.length + a ≤ 8)
    (f : b = 0 ∨ s.ml.inflight.length + b ≤ 8) : Holds s t where
  cause := h.cause
  capacity w :=
    { reads := by have := h.reads; have := w.reads; omega
      reports := h.reports w.reports
      inflight := by have := h.inflight; have := w.inflight; omega
      fades := h.fades w.fades
      runs := h.runs w.runs
      actions := h.actions w.actions
      recalls := h.recalls w.recalls
      pages := h.pages w.pages
      routes := h.routes w.routes }

theorem Adds.keepsHolds {s t : State} (h : Keeps s t) : Holds s t := h.holds (.inl rfl) (.inl rfl)

section
variable (s : State)

/-! ### Resets, starting and stopping -/

/-- Every block at reset, its reads no more than before. -/
theorem State.resetBlocks_keeps {l : List Outstanding} (h : l.length ≤ s.ml.slots.length) :
    Keeps s (s.resetBlocks l) where
  cause _ k := k
  reads := h
  reports _ := Nat.zero_le _
  inflight := Nat.zero_le _
  fades _ := Nat.zero_le _
  runs _ := Nat.zero_le _
  actions _ := Nat.zero_le _
  recalls _ := Nat.zero_le _
  pages _ := Nat.zero_le _
  routes _ := Nat.zero_le _

theorem State.startFault_keeps : Keeps s s.startFault :=
  ((State.setCause_keeps s _).then (State.resetBlocks_keeps _ le_rfl)).then (State.ml_same _ rfl rfl rfl rfl)

theorem State.enterStarting_keeps : Keeps s s.enterStarting := by
  unfold State.enterStarting
  simp only
  split
  · exact (State.ml_same s rfl rfl rfl rfl).then (State.startFault_keeps _)
  · exact State.ml_same s rfl rfl rfl rfl

theorem State.endAbandoned_keeps : Keeps s s.endAbandoned := by
  have h := State.resetBlocks_keeps s (le_refl s.ml.slots.length)
  unfold State.endAbandoned
  simp only
  split
  · exact h.then (State.enterStarting_keeps _)
  · exact h

theorem State.startBusError_keeps : Keeps s s.startBusError :=
  (State.setCause_keeps s _).then (State.startFault_keeps _)

theorem State.rootReturn_keeps (d : ReadData) : Keeps s (s.rootReturn d) := by
  unfold State.rootReturn
  split
  · exact .refl s
  · split
    · exact (State.dropRead_keeps s _ _).then (State.endAbandoned_keeps _)
    · have h := State.freeSlot_keeps s .root
      simp only
      split
      · exact h.then (State.startBusError_keeps _)
      · split
        · exact h.then (State.ml_same _ rfl rfl rfl rfl)
        · exact h.then (State.startFault_keeps _)

theorem State.ck_keeps (x : Ck) : Keeps s { s with ck := x } := State.setCk_keeps s x
theorem State.mx_keeps (x : Mx) : Keeps s { s with mx := x } := .same rfl rfl rfl rfl rfl le_rfl rfl

theorem State.enterRunning_keeps (c : Setup) (p : Pins) : Keeps s (s.enterRunning c p) := by
  have k : ∀ (b : Bool) (t : State), Keeps s t → Keeps s (if b then t.beginAcquire else t) := by
    intro b t ht; split
    · exact ht.then (State.beginAcquire_keeps _)
    · exact ht
  have h : Keeps s { s with ml := ({ s.ml with
      part := .running, phase := .idle, position := some c.chainStart, reader := .waiting, lookOwed := true,
      pollInterval := c.poll, pollStart := 0, freeHead := some c.freeHead, nextLink := .unknown,
      anchor := some c.anchor, nextStatus := 0 } : Ml).beginLook } := by
    refine State.ml_keeps s (MlAdds.then ?_ (Ml.beginLook_keeps _))
    exact .same rfl le_rfl le_rfl le_rfl
  exact ((k _ _ (h.then (State.ck_keeps _ _))).then (State.firstInputs_keeps _ _)).then (State.mx_keeps _ _)

theorem State.setWindows_keeps (w : Vector Window 16) :
    Keeps s { s with ml := { s.ml with windows := w } } := State.ml_same s rfl rfl rfl rfl

theorem State.tableReturn_keeps (d : ReadData) (p : Pins) : Keeps s (s.tableReturn d p) := by
  unfold State.tableReturn
  split
  · exact .refl s
  · split
    · exact (State.dropRead_keeps s _ _).then (State.endAbandoned_keeps _)
    · have h := State.freeSlot_keeps s .startTable
      simp only
      split
      · exact h.then (State.startBusError_keeps _)
      · exact h
      · split
        · exact (h.then (State.setWindows_keeps _ _)).then (State.enterRunning_keeps _ _ _)
        · exact h.then (State.startFault_keeps _)

theorem State.stopFire_keeps : Keeps s s.stopFire :=
  (State.abandonFire_keeps s).then (State.setNotices_keeps _ _)

theorem State.enterStopping_keeps : Keeps s s.enterStopping := by
  have h : ∀ (l : List (Link × Bool)) (m : Ml), MlKeeps s.ml m →
      MlKeeps s.ml (l.foldl (fun m e => m.finishRecord s.ck.now e.1 .aborted .none e.2) m) := by
    intro l
    induction l with
    | nil => exact fun m h => h
    | cons e es ih => exact fun m h => ih _ (h.then (Ml.finishRecord_keeps _ _ _ _ _ _))
  have k := h (s.ml.inflight.map fun e => (e.r, s.abortClamped e)) { s.ml with
    part := .stopping, queue := [], headWanted := false, loads := [], inflight := [], reader := .waiting,
    lookOwed := false } (.same rfl le_rfl (by simp) (by simp))
  unfold State.enterStopping
  refine Adds.then (t := { s with
    ml := _, mx := { s.mx with closingAt := some (nextBoundary s.ck.now), closingDone := false },
    fb := { s.fb with recalls := [] }, ck := { s.ck with external := false, selected := false } })
    ?_ (State.stopFire_keeps _)
  exact { State.ml_keeps s k with recalls := fun _ => Nat.zero_le _ }

theorem State.runOne_keeps : Keeps s s.runOne := by
  unfold State.runOne
  split
  · exact .refl s
  · have h : Keeps s { s with ml := { s.ml with run := true } } := State.ml_same s rfl rfl rfl rfl
    simp only
    split
    · exact h.then (State.enterStarting_keeps _)
    · exact h

theorem State.runZero_keeps : Keeps s s.runZero := by
  unfold State.runZero
  split
  · exact .refl s
  · have h : Keeps s { s with ml := { s.ml with run := false } } := State.ml_same s rfl rfl rfl rfl
    simp only
    split
    · exact h
    · split
      · exact State.ml_same s rfl rfl rfl rfl
      · refine Adds.then ?_ (State.endAbandoned_keeps _)
        exact State.ml_same s rfl rfl rfl rfl
    · exact h.then (State.enterStopping_keeps _)
    · exact h

/-! ### Status page -/

theorem State.restartPeaks_keeps : Keeps s s.restartPeaks := State.mx_keeps s _

theorem State.writeStatus_keeps : Keeps s s.writeStatus := by
  unfold State.writeStatus
  split
  · exact .refl s
  · split
    · exact (State.windowFault_keeps _ _ _).then (State.restartPeaks_keeps _)
    · refine Adds.then ?_ (State.restartPeaks_keeps _)
      exact State.ml_same s rfl rfl rfl rfl

theorem State.statusPage_keeps : Keeps s s.statusPage :=
  (State.writeStatus_keeps s).then (State.ml_same _ rfl rfl rfl rfl)

theorem State.endStopping_keeps : Keeps s s.endStopping := by
  have h := (State.writeStatus_keeps s).then (State.resetBlocks_keeps s.writeStatus (l := []) (Nat.zero_le _))
  unfold State.endStopping
  simp only
  split
  · exact h.then (State.enterStarting_keeps _)
  · exact h

/-! ### The read arbiter -/

/-- What adds nothing adds at most one read. -/
theorem Adds.orRead {s t : State} (h : Keeps s t) : Adds 1 0 s t := h.mono (by omega) le_rfl

theorem State.issue_adds (u : ReadUse) (a n : Nat) (l : Link) :
    Adds 1 0 s { s with ml := s.ml.issue u a n l } :=
  .ofMl (Ml.issue_adds _ _ _ _ _) rfl rfl rfl rfl rfl rfl

theorem State.issueOwn_adds : Adds 1 0 s s.issueOwn := by
  unfold State.issueOwn
  split
  · exact State.issue_adds _ _ _ _ _
  · exact State.issue_adds _ _ _ _ _
  · exact (State.issue_adds s _ _ _ _).then (State.ml_same _ rfl rfl rfl rfl)
  · exact (Adds.refl s).orRead

theorem Ml.issueHead_adds (m : Ml) : MlAdds 1 0 m m.issueHead := by
  unfold Ml.issueHead
  have h : MlKeeps m { m with headWanted := false } := .same rfl le_rfl le_rfl le_rfl
  simp only
  split
  · exact (h.trans (Ml.issue_adds _ _ _ _ _))
  · have k := (h.then (Ml.recordFault_keeps _ (m.freeHead.getD endLink) .report)).then (Ml.loseQueue_keeps _)
    exact { k with reads := by have := k.reads; omega }

theorem State.toWaiting_keeps {t : State} (h : Keeps s t) : Keeps s { t with ml := t.ml.toWaiting } :=
  h.then (State.ml_keeps t (Ml.toWaiting_keeps _))

theorem State.issueChain_adds : Adds 1 0 s s.issueChain := by
  have h : ∀ (l : Link) (u : ReadUse) (n : Nat), Adds 1 0 s
      (if s.ml.allows l n false then { s with ml := s.ml.issue u (s.ml.address l) n l }
       else { s.windowFault l .chain with ml := (s.windowFault l .chain).ml.toWaiting }) := by
    intro l u n
    split
    · exact State.issue_adds _ _ _ _ _
    · exact (State.toWaiting_keeps s (State.windowFault_keeps s l .chain)).orRead
  unfold State.issueChain
  simp only
  split
  · exact h _ _ _
  · exact h _ _ _
  · exact (Adds.refl s).orRead

theorem State.issueArm_adds (fire : Bool) : Adds 1 0 s (s.issueArm fire) := by
  unfold State.issueArm
  split
  · exact (Adds.refl s).orRead
  · split
    · exact State.issue_adds _ _ _ _ _
    · exact ((State.windowFault_keeps _ _ _).then (State.bookFault_keeps _ _ _ _)).orRead

theorem State.issueRecall_adds (n : Nat) : Adds 1 0 s (s.issueRecall n) := by
  unfold State.issueRecall
  split
  · exact (Adds.refl s).orRead
  · split
    · exact State.issue_adds _ _ _ _ _
    · exact ((State.windowFault_keeps _ _ _).then (State.sceneFault_keeps _ _ _)).orRead

theorem State.serveUser_adds (u : User) : Adds 1 0 s (s.serveUser u) := by
  cases u
  · exact State.issueOwn_adds _
  · exact .ofMl (Ml.issueHead_adds _) rfl rfl rfl rfl rfl rfl
  · exact State.issueChain_adds _
  · exact State.issueArm_adds _ _
  · exact State.issueArm_adds _ _
  · exact State.issueRecall_adds _ _
  · exact State.walkerServe_adds _

theorem State.serveUser_holds {u : User} (h : s.grantDue = some u) : Holds s (s.serveUser u) := by
  refine (State.serveUser_adds s u).holds (.inr ?_) (.inl rfl)
  unfold State.grantDue at h
  split at h
  · rename_i k; simpa [Config.readCapacity] using k
  · cases h

theorem State.grantRead_holds : Holds s s.grantRead := by
  unfold State.grantRead
  split
  · rename_i h; exact State.serveUser_holds s h
  · exact .refl s

theorem State.grantN_holds (n : Nat) : Holds s (State.grantN n s) := by
  induction n generalizing s with
  | zero => exact .refl s
  | succ n ih =>
    unfold State.grantN
    split
    · rename_i h
      exact ((State.serveUser_holds s h).trans (State.settle_keeps _).keepsHolds).trans (ih _)
    · exact .refl s

theorem State.granted_holds : Holds s s.granted := State.grantN_holds s _

/-! ### Returns -/

theorem State.chainLinkReturn_keeps (d : ReadData) : Keeps s (s.chainLinkReturn d) := by
  unfold State.chainLinkReturn
  split
  · exact .refl s
  · split
    · exact State.dropRead_keeps _ _ _
    · have h := State.freeSlot_keeps s .chainLink
      simp only
      split
      · split
        · exact State.toWaiting_keeps s h
        · exact h.then (State.ml_same _ rfl rfl rfl rfl)
      · exact State.toWaiting_keeps s (h.then (State.windowFault_keeps _ _ _))

theorem State.readerBack_keeps {t : State} (h : Keeps s t) : Keeps s t.readerBack := State.toWaiting_keeps s h

theorem State.takeRecord_adds (l : Link) (b : List Byte) : Adds 0 1 s (s.takeRecord l b) := by
  unfold State.takeRecord
  simp only
  split
  · exact (State.readerBack_keeps s (State.windowFault_keeps _ _ _)).orCommand
  · split
    · refine Adds.after ?_ (State.handed_adds _ (State.finish_keeps _ _ _ _ _).orCommand)
      exact State.ml_same s rfl rfl rfl rfl
    · refine Adds.after ?_ (State.handed_adds _ (State.runCommand_adds _ _))
      exact State.ml_same s rfl rfl rfl rfl

theorem State.chainRecordReturn_holds (d : ReadData) : Holds s (s.chainRecordReturn d) := by
  unfold State.chainRecordReturn
  split
  · exact .refl s
  · rename_i o _
    split
    · split
      · exact (State.dropRead_keeps _ _ _).keepsHolds
      · rename_i ht
        have h := State.freeSlot_keeps s o.use
        have room : s.ml.inflight.length + 1 ≤ 8 := by
          simp [State.takes, Config.inflightCapacity] at ht
          exact of_decide_eq_true ht.2
        simp only
        split
        · split
          · exact (Adds.after h (State.takeRecord_adds _ _ _)).holds (.inl rfl) (.inr room)
          · exact (State.readerBack_keeps s (h.then (State.setCause_keeps _ _))).keepsHolds
        · exact (State.readerBack_keeps s (h.then (State.windowFault_keeps _ _ _))).keepsHolds
    · exact (State.dropRead_keeps _ _ _).keepsHolds

theorem Ml.headReturn_keeps (m : Ml) (d : ReadData) : MlKeeps m (m.headReturn d) := by
  unfold Ml.headReturn
  split
  · exact .refl m
  · split
    · have h := Ml.dropRead_keeps m 0 .reportHead d
      simp only
      split
      · exact h
      · exact h.then (Ml.loseQueue_keeps _)
    · have h := Ml.freeSlot_keeps m .reportHead
      have k : ∀ x : NextLink, MlKeeps m { m.freeSlot .reportHead with nextLink := x } := fun x =>
        h.thenSame rfl le_rfl le_rfl le_rfl
      simp only
      split
      · split
        · exact (k _).then (Ml.loseQueue_keeps _)
        · exact (k _).then (Ml.serve_keeps _ _)
      · exact (h.then (Ml.recordFault_keeps _ _ _)).then (Ml.loseQueue_keeps _)

theorem State.loadWindowsReturn_keeps (d : ReadData) : Keeps s (s.loadWindowsReturn d) := by
  unfold State.loadWindowsReturn
  split
  · exact .refl s
  · rename_i o _
    split
    · exact State.dropRead_keeps _ _ _
    · have h := State.freeSlot_keeps s o.use
      simp only
      split
      · exact (h.then (State.setWindows_keeps _ _)).then (State.ml_keeps _ (Ml.finishFirst_keeps _ _ _ _))
      · exact (h.then (State.windowFault_keeps _ _ _)).then (State.ml_keeps _ (Ml.finishFirst_keeps _ _ _ _))

/-! ### Events of time -/

theorem State.wake_keeps : Keeps s s.wake := by
  unfold State.wake
  split
  · exact State.ml_keeps s (Ml.oweLook_keeps _)
  · exact .refl s

theorem State.pollExpiry_keeps : Keeps s s.pollExpiry :=
  State.ml_keeps s ((Ml.oweLook_keeps _).thenSame rfl le_rfl le_rfl le_rfl)

theorem State.controlPeriod_keeps : Keeps s s.controlPeriod := by
  have h : ∀ l : List Frame, Keeps s (if s.ck.now = 0 then s else s.computePeriod l) := by
    intro l; split
    · exact .refl s
    · exact State.computePeriod_keeps _ _
  have k : ∀ t : State, Keeps s t → Keeps s (if t.running then t.stepFades else t) := by
    intro t ht; split
    · exact ht.then (State.stepFades_keeps _)
    · exact ht
  unfold State.controlPeriod
  exact ((k _ (h _)).then (State.formPeriod_keeps _ _)).then (State.mx_keeps _ _)

theorem State.fadeEnd_keeps (x : Target) : Keeps s (s.fadeEnd x) := by
  unfold State.fadeEnd
  split
  · exact .refl s
  · split
    · exact State.completeFade_keeps _ _
    · exact .refl s

theorem State.pathEnd_keeps (v : Nat) : Keeps s (s.pathEnd v) := by
  unfold State.pathEnd
  split
  · exact State.drain_keeps _ _ _
  · exact .refl s

theorem State.cutRampEnd_keeps (v : Nat) : Keeps s (s.cutRampEnd v) := by
  unfold State.cutRampEnd
  split
  · exact State.drain_keeps _ _ _
  · exact .refl s

theorem State.pauseRampEnd_keeps (v : Nat) : Keeps s (s.pauseRampEnd v) := by
  unfold State.pauseRampEnd
  split
  · exact State.drain_keeps _ _ _
  · exact .refl s

theorem State.tailEnd_keeps (v : Nat) : Keeps s (s.tailEnd v) := by
  unfold State.tailEnd
  split
  · exact State.setVoice_keeps _ _ _
  · exact .refl s

theorem State.voiceStart_keeps (v : Nat) : Keeps s (s.voiceStart v) := by
  unfold State.voiceStart
  split
  · have h : ∀ (o : VOwner) (t : State), Keeps s t → Keeps s
        (match o with | .cue run => t.voiceActionDone v run | _ => t) := by
      intro o t ht
      cases o with
      | cue run => exact ht.then (State.voiceActionDone_keeps _ _ _)
      | _ => exact ht
    exact h _ _ (State.beginVoice_keeps _ _)
  · exact .refl s

theorem State.flashEnd_keeps : Keeps s s.flashEnd := by
  unfold State.flashEnd
  split
  · exact State.setCu_keeps s rfl
  · exact .refl s

theorem State.clockEdge_keeps : Keeps s s.clockEdge :=
  have w : Keeps s (if s.windowDue then s.windowEnd else s) := by
    split
    · exact State.windowEnd_keeps _
    · exact .refl s
  have l : ∀ t : State, Keeps t (if t.lossDue then t.lossEvent else t) := fun t => by
    split
    · exact State.lossEvent_keeps _
    · exact .refl t
  (w.then (l _)).then (State.setCk_keeps _ _)

theorem State.dueVoice_keeps {t : State} (h : s.dueVoice = some t) : Keeps s t := by
  unfold State.dueVoice at h
  split at h
  · cases h; exact State.pathEnd_keeps _ _
  · split at h
    · cases h; exact State.cutRampEnd_keeps _ _
    · split at h
      · cases h; exact State.pauseRampEnd_keeps _ _
      · split at h
        · cases h; exact State.tailEnd_keeps _ _
        · cases h

theorem State.dueShow_keeps {t : State} (h : s.dueShow = some t) : Keeps s t := by
  unfold State.dueShow at h
  split at h
  · cases h; exact State.expireFollow_keeps _
  · split at h
    · cases h; exact State.runDueAction_keeps _ _
    · split at h
      · cases h; exact State.voiceStart_keeps _ _
      · split at h
        · cases h; exact State.endPage_keeps _ _ _ _
        · split at h
          · cases h; exact State.endPage_keeps _ _ _ _
          · cases h

theorem State.dueClock_keeps {t : State} (h : s.dueClock = some t) : Keeps s t := by
  unfold State.dueClock at h
  split at h
  · cases h; exact State.flashEnd_keeps _
  · split at h
    · cases h; exact State.windowEnd_keeps _
    · split at h
      · cases h; exact State.lossEvent_keeps _
      · split at h
        · cases h; exact State.pollExpiry_keeps _
        · split at h
          · cases h; exact State.statusPage_keeps _
          · cases h

/-- An event that is due holds the capacities. -/
theorem State.dueStep_holds {t : State} (h : s.dueStep = some t) : Holds s t := by
  unfold State.dueStep at h
  split at h
  · split at h
    · cases h; exact (State.controlPeriod_keeps _).keepsHolds
    · cases h
  · split at h
    · rename_i u hu; cases h; exact State.serveUser_holds s hu
    · split at h
      · cases h; exact (State.takeBoundary_keeps _).keepsHolds
      · split at h
        · cases h; exact (State.controlPeriod_keeps _).keepsHolds
        · split at h
          · rename_i hv; cases h; exact (State.dueVoice_keeps s hv).keepsHolds
          · split at h
            · cases h; exact (State.inputChange_keeps _ _ _ _).keepsHolds
            · split at h
              · rename_i hv; cases h; exact (State.dueShow_keeps s hv).keepsHolds
              · exact (State.dueClock_keeps s h).keepsHolds

theorem State.drainN_holds (n : Nat) (s : State) : Holds s (State.drainN n s) := by
  induction n generalizing s with
  | zero => exact .refl s
  | succ n ih =>
    unfold State.drainN
    split
    · exact .refl s
    · rename_i h
      exact ((State.dueStep_holds s h).trans (State.settle_keeps _).keepsHolds).trans (ih _)

theorem State.nextSample_keeps (p : Pins) (n : Nat) : Keeps s (s.nextSample p n) := by
  have h : ∀ (t : State) (k : Nat), Keeps s t → Keeps s
      (if t.running then (t.debounce p.contacts).oscillate k else t) := by
    intro t k ht; split
    · exact (ht.then (State.debounce_keeps _ _)).then (State.setCk_keeps _ _)
    · exact ht
  have k : ∀ (t : State) (x : Mx), Keeps s t → Keeps s { t.tickVoices.1 with mx := x } := fun t x ht =>
    (ht.then (State.tickVoices_keeps t)).then (State.mx_keeps _ x)
  unfold State.nextSample
  simp only
  exact k _ _ (h _ _ (State.setCk_keeps s _))

theorem State.samplePeriod_holds (p : Pins) (n : Nat) : Holds s (s.samplePeriod p n) := by
  unfold State.samplePeriod
  split
  · exact (State.drainN_holds _ s).trans (State.nextSample_keeps _ _ _).keepsHolds
  · exact .refl s

end

end Sys2Proof.Machine
end

