-- ==== Sys2Proof/Laws/PerInstr.lean ====
section
/-! SUPPORT. One lemma for each row of the opcode table: how its command is laid out in a record
(11, R189, R195). -/

namespace Sys2Proof.Laws.Layout
open Sys2Proof.Machine

/-- A command has a record exactly where it carries the record's link; its kind is one of the catalogue's
1–39, and its arguments fit the 96 bytes of the argument area (11, R189, R195). -/
def Statement (i : Instr) : Prop :=
  i.wf = true →
    (recordLink i).isSome = (encodeArgs i).isSome ∧
    ∀ x, encodeArgs i = some x → 1 ≤ x.1 ∧ x.1 ≤ 39 ∧ x.2.length ≤ 96

/-- A value of `n` bytes takes `n` bytes. -/
theorem length_toLe (n v : Nat) : (toLe n v).length = n := by
  induction n generalizing v with
  | zero => rfl
  | succ n ih => simp [toLe, ih]

/-- A row that no record carries. -/
theorem statement_of_none {i : Instr} (h : recordLink i = none) (k : encodeArgs i = none) : Statement i := by
  intro _
  rw [h, k]
  exact ⟨rfl, fun _ e => by cases e⟩

/-- A row with a record of kind `k` and arguments `a`. -/
theorem statement_of_some {i : Instr} {r : Link} {k : Nat} {a : List Byte} (h : recordLink i = some r)
    (e : encodeArgs i = some (k, a)) (lo : (1).ble k = true) (hi : k.ble 39 = true)
    (len : i.wf = true → a.length.ble 96 = true) :
    Statement i := by
  intro w
  rw [h, e]
  refine ⟨rfl, fun x hx => ?_⟩
  cases hx
  exact ⟨Nat.le_of_ble_eq_true lo, Nat.le_of_ble_eq_true hi, Nat.le_of_ble_eq_true (len w)⟩

theorem powerOn : Statement .powerOn :=
  statement_of_none rfl rfl

theorem registerWrite (offset : Nat) (wide : Bool) (value : Wide) : Statement (.registerWrite offset wide value) :=
  statement_of_none rfl rfl

theorem runWritten1 : Statement .runWritten1 :=
  statement_of_none rfl rfl

theorem runWritten0 : Statement .runWritten0 :=
  statement_of_none rfl rfl

theorem softReset : Statement .softReset :=
  statement_of_none rfl rfl

theorem wake : Statement .wake :=
  statement_of_none rfl rfl

theorem causeClear (bits : Word) : Statement (.causeClear bits) :=
  statement_of_none rfl rfl

theorem maskWrite (value : Word) : Statement (.maskWrite value) :=
  statement_of_none rfl rfl

theorem rootBlockReadComplete (d : ReadData) : Statement (.rootBlockReadComplete d) :=
  statement_of_none rfl rfl

theorem windowTableReadComplete (d : ReadData) (pins : Pins) : Statement (.windowTableReadComplete d pins) :=
  statement_of_none rfl rfl

theorem stoppingEnd : Statement .stoppingEnd :=
  statement_of_none rfl rfl

theorem orphanReadReturn (d : ReadData) : Statement (.orphanReadReturn d) :=
  statement_of_none rfl rfl

theorem readSlotGrant : Statement .readSlotGrant :=
  statement_of_none rfl rfl

theorem samplePeriod (pins : Pins) (osc : Nat) : Statement (.samplePeriod pins osc) :=
  statement_of_none rfl rfl

theorem controlPeriod : Statement .controlPeriod :=
  statement_of_none rfl rfl

theorem fadeComplete (t : Target) : Statement (.fadeComplete t) :=
  statement_of_none rfl rfl

theorem actionDue : Statement .actionDue :=
  statement_of_none rfl rfl

theorem followExpired : Statement .followExpired :=
  statement_of_none rfl rfl

theorem voiceStart (voice : Nat) : Statement (.voiceStart voice) :=
  statement_of_none rfl rfl

theorem tailEnd (voice : Nat) : Statement (.tailEnd voice) :=
  statement_of_none rfl rfl

theorem cutRampEnd (voice : Nat) : Statement (.cutRampEnd voice) :=
  statement_of_none rfl rfl

theorem pauseRampEnd (voice : Nat) : Statement (.pauseRampEnd voice) :=
  statement_of_none rfl rfl

theorem pathEnd (voice : Nat) : Statement (.pathEnd voice) :=
  statement_of_none rfl rfl

theorem waitExpiry (page : Nat) : Statement (.waitExpiry page) :=
  statement_of_none rfl rfl

theorem lengthExpiry (page : Nat) : Statement (.lengthExpiry page) :=
  statement_of_none rfl rfl

theorem flashWindowEnd : Statement .flashWindowEnd :=
  statement_of_none rfl rfl

theorem inputChange (input watcherAt : Nat) (first : List Nat) : Statement (.inputChange input watcherAt first) :=
  statement_of_none rfl rfl

theorem measurementWindowEnd : Statement .measurementWindowEnd :=
  statement_of_none rfl rfl

theorem lossEvent : Statement .lossEvent :=
  statement_of_none rfl rfl

theorem changeoverBoundary : Statement .changeoverBoundary :=
  statement_of_none rfl rfl

theorem pollTimerExpiry : Statement .pollTimerExpiry :=
  statement_of_none rfl rfl

theorem statusPageWrite : Statement .statusPageWrite :=
  statement_of_none rfl rfl

theorem fetchComplete (voice : Nat) (d : ReadData) : Statement (.fetchComplete voice d) :=
  statement_of_none rfl rfl

theorem armingReadComplete (fire : Bool) (d : ReadData) : Statement (.armingReadComplete fire d) :=
  statement_of_none rfl rfl

theorem sceneReadComplete (number : Nat) (d : ReadData) : Statement (.sceneReadComplete number d) :=
  statement_of_none rfl rfl

theorem chainLinkReadComplete (d : ReadData) : Statement (.chainLinkReadComplete d) :=
  statement_of_none rfl rfl

theorem chainRecordReadComplete (d : ReadData) : Statement (.chainRecordReadComplete d) :=
  statement_of_none rfl rfl

theorem reportLinkReadComplete (d : ReadData) : Statement (.reportLinkReadComplete d) :=
  statement_of_none rfl rfl

theorem loadWindowsReadComplete (d : ReadData) : Statement (.loadWindowsReadComplete d) :=
  statement_of_none rfl rfl

theorem setLevel (r : Link) (target : TargetField) (mode : Nat) (level : Int) : Statement (.setLevel r target mode
    level) :=
  statement_of_some rfl rfl rfl rfl fun _ => rfl

theorem fade (r : Link) (target : TargetField) (mode : Nat) (level : Int) (dur : Nat) (law : Nat) : Statement (.fade r
    target mode level dur law) :=
  statement_of_some rfl rfl rfl rfl fun _ => rfl

theorem stopFade (r : Link) (target : TargetField) : Statement (.stopFade r target) :=
  statement_of_some rfl rfl rfl rfl fun _ => rfl

theorem setSource (r : Link) (source : Nat) (mute : Nat) : Statement (.setSource r source mute) :=
  statement_of_some rfl rfl rfl rfl fun _ => rfl

theorem setBus (r : Link) (bus : Nat) (mute : Option Nat) (clear : Nat) : Statement (.setBus r bus mute clear) :=
  statement_of_some rfl rfl rfl rfl fun _ => rfl

theorem setContrib (r : Link) (bus : Nat) (source : Nat) (level : Int) (tap : Nat) (dur : Nat) (law : Nat) : Statement
    (.setContrib r bus source level tap dur law) :=
  statement_of_some rfl rfl rfl rfl fun _ => rfl

theorem removeContrib (r : Link) (bus : Nat) (source : Nat) (dur : Nat) (law : Nat) : Statement (.removeContrib r bus
    source dur law) :=
  statement_of_some rfl rfl rfl rfl fun _ => rfl

theorem startVoice (r : Link) (voice : Nat) (desc : DescField) (delay : Nat) : Statement (.startVoice r voice desc
    delay) :=
  statement_of_some rfl rfl rfl rfl fun _ => rfl

theorem stopVoice (r : Link) (voice : Nat) (mode : Nat) (frames : Nat) : Statement (.stopVoice r voice mode frames) :=
  statement_of_some rfl rfl rfl rfl fun _ => rfl

theorem teardownVoice (r : Link) (voice : Nat) : Statement (.teardownVoice r voice) :=
  statement_of_some rfl rfl rfl rfl fun _ => rfl

theorem setReserve (r : Link) (voices : BitVec 64) : Statement (.setReserve r voices) :=
  statement_of_some rfl rfl rfl rfl fun _ => rfl

theorem setSchedule (r : Link) (count : Nat) (voices : List Nat) : Statement (.setSchedule r count voices) :=
  statement_of_some rfl rfl rfl rfl fun w => by
    have h : voices.length = min count 95 := by
      simp only [Instr.wf, Bool.and_eq_true, beq_iff_eq] at w
      exact w.1.2
    have hf : (voices.flatMap (toLe 1)).length = voices.length := by
      clear h w
      induction voices with
      | nil => rfl
      | cons v vs ih => simp [ih, length_toLe]; omega
    refine Nat.ble_eq_true_of_le ?_
    rw [List.length_append, length_toLe, hf, h]
    omega

theorem loadBook (r : Link) (book : Link) (index : Nat) : Statement (.loadBook r book index) :=
  statement_of_some rfl rfl rfl rfl fun _ => rfl

theorem goto (r : Link) (index : Nat) : Statement (.goto r index) :=
  statement_of_some rfl rfl rfl rfl fun _ => rfl

theorem go (r : Link) : Statement (.go r) :=
  statement_of_some rfl rfl rfl rfl fun _ => rfl

theorem hold (r : Link) : Statement (.hold r) :=
  statement_of_some rfl rfl rfl rfl fun _ => rfl

theorem release (r : Link) : Statement (.release r) :=
  statement_of_some rfl rfl rfl rfl fun _ => rfl

theorem fire (r : Link) (index : Nat) : Statement (.fire r index) :=
  statement_of_some rfl rfl rfl rfl fun _ => rfl

theorem stopCues (r : Link) : Statement (.stopCues r) :=
  statement_of_some rfl rfl rfl rfl fun _ => rfl

theorem setFoldback (r : Link) (mix : Nat) (f : FoldbackField) : Statement (.setFoldback r mix f) :=
  statement_of_some rfl rfl rfl rfl fun _ => rfl

theorem recallScene (r : Link) (scene : Link) (dur : Nat) (law : Nat) : Statement (.recallScene r scene dur law) :=
  statement_of_some rfl rfl rfl rfl fun _ => rfl

theorem talk (r : Link) (value : Nat) : Statement (.talk r value) :=
  statement_of_some rfl rfl rfl rfl fun _ => rfl

theorem setZone (r : Link) (zone : Nat) (f : ZoneField) : Statement (.setZone r zone f) :=
  statement_of_some rfl rfl rfl rfl fun _ => rfl

theorem setPageButton (r : Link) (button : Nat) (unset : Nat) (f : ButtonField) : Statement (.setPageButton r button
    unset f) :=
  statement_of_some rfl rfl rfl rfl fun _ => rfl

theorem startPage (r : Link) (page : PageField) : Statement (.startPage r page) :=
  statement_of_some rfl rfl rfl rfl fun _ => by
    simp [putPage, putDesc, length_toLe]

theorem endPage (r : Link) (page : Nat) : Statement (.endPage r page) :=
  statement_of_some rfl rfl rfl rfl fun _ => rfl

theorem cancelPage (r : Link) (page : Nat) : Statement (.cancelPage r page) :=
  statement_of_some rfl rfl rfl rfl fun _ => rfl

theorem resume (r : Link) (time : Option Nat) : Statement (.resume r time) :=
  statement_of_some rfl rfl rfl rfl fun _ => rfl

theorem setRoute (r : Link) (function : Nat) (input : Nat) (polarity : Nat) : Statement (.setRoute r function input
    polarity) :=
  statement_of_some rfl rfl rfl rfl fun _ => rfl

theorem setInput (r : Link) (input : Nat) (debounce : Option Nat) (rise : Option Nat) (fall : Option Nat) : Statement
    (.setInput r input debounce rise fall) :=
  statement_of_some rfl rfl rfl rfl fun _ => rfl

theorem setPattern (r : Link) (mode : Nat) (mask : BitVec 16) (compare : BitVec 16) (action : Nat) (line : Nat) :
    Statement (.setPattern r mode mask compare action line) :=
  statement_of_some rfl rfl rfl rfl fun _ => rfl

theorem setOutput (r : Link) (output : Nat) (source : Nat) (group : Nat) : Statement (.setOutput r output source
    group) :=
  statement_of_some rfl rfl rfl rfl fun _ => rfl

theorem setClockLimits (r : Link) (warn : Option Nat) (change : Option Nat) (hyst : Option Nat) : Statement
    (.setClockLimits r warn change hyst) :=
  statement_of_some rfl rfl rfl rfl fun _ => rfl

theorem selectClock (r : Link) (value : Nat) : Statement (.selectClock r value) :=
  statement_of_some rfl rfl rfl rfl fun _ => rfl

theorem relock (r : Link) : Statement (.relock r) :=
  statement_of_some rfl rfl rfl rfl fun _ => rfl

theorem loadWindows (r : Link) (addr : Wide) (count : Nat) : Statement (.loadWindows r addr count) :=
  statement_of_some rfl rfl rfl rfl fun _ => rfl

theorem setPoll (r : Link) (interval : Nat) : Statement (.setPoll r interval) :=
  statement_of_some rfl rfl rfl rfl fun _ => rfl

theorem clearFlags (r : Link) (flags : BitVec 8) : Statement (.clearFlags r flags) :=
  statement_of_some rfl rfl rfl rfl fun _ => rfl

theorem mark (r : Link) (value : Word) : Statement (.mark r value) :=
  statement_of_some rfl rfl rfl rfl fun _ => rfl

theorem wordClockEdge : Statement .wordClockEdge :=
  statement_of_none rfl rfl

theorem writeBusError : Statement .writeBusError :=
  statement_of_none rfl rfl

end Sys2Proof.Laws.Layout
end

