-- ==== Sys2Proof/Tests/Slice0.lean ====
section
/-! SUPPORT. Tests: each check of WellFormed refuses an ill-formed command; values the spec works out; and for
each statement one theorem whose states and operands meet its hypotheses, clause by clause. -/

namespace Sys2Proof.Tests
open Sys2Proof.Machine

/-! ### WellFormed refuses -/

def lk : Link := ⟨0, 128⟩
def noDesc : DescField := ⟨0, 0, 1, 0, 0, 0, 0⟩
def noPage : PageField := ⟨1, 0, 0, 0, 0, 0, 1, 0, 0, 1, noDesc, noDesc⟩
def quietPins : Pins := ⟨0, List.replicate 64 0⟩

theorem test_wf_link_window : (Instr.go ⟨256, 0⟩).wf = false := by decide
theorem test_wf_link_offset : (Instr.go ⟨0, 2 ^ 56⟩).wf = false := by decide
theorem test_wf_byte : (Instr.talk lk 256).wf = false := by decide
theorem test_wf_level : (Instr.setLevel lk ⟨0, 0, 0⟩ 0 32768).wf = false := by decide
theorem test_wf_level_low : (Instr.setLevel lk ⟨0, 0, 0⟩ 0 (-32769)).wf = false := by decide
theorem test_wf_target_field : (Instr.stopFade lk ⟨0, 256, 0⟩).wf = false := by decide
theorem test_wf_optional : (Instr.resume lk (some (2 ^ 32))).wf = false := by decide
theorem test_wf_optional_level :
    (Instr.setFoldback lk 1 ⟨none, some 40000, none, none, none, none, none⟩).wf = false := by decide
theorem test_wf_zone_field : (Instr.setZone lk 1 ⟨some 256, none, none, none, none, none⟩).wf = false := by decide
theorem test_wf_descriptor :
    (Instr.startVoice lk 1 { noDesc with frames := 2 ^ 32 } 0).wf = false := by decide
theorem test_wf_page : (Instr.startPage lk { noPage with id := 65536 }).wf = false := by decide
theorem test_wf_button : (Instr.setPageButton lk 1 0 ⟨0, 0, 256, 0, 1⟩).wf = false := by decide
theorem test_wf_schedule_length : (Instr.setSchedule lk 2 [1]).wf = false := by decide
theorem test_wf_register : (Instr.registerWrite 256 false 0).wf = false := by decide
theorem test_wf_root_block : (Instr.rootBlockReadComplete (.data [])).wf = false := by decide
theorem test_wf_pins : (Instr.samplePeriod ⟨0, []⟩ 0).wf = false := by decide
theorem test_wf_target : (Instr.fadeComplete (.crosspoint 25 0)).wf = false := by decide
theorem test_wf_voice : (Instr.voiceStart 65).wf = false := by decide
theorem test_wf_input : (Instr.inputChange 25 0 []).wf = false := by decide
theorem test_wf_first : (Instr.inputChange 1 0 [21]).wf = false := by decide
theorem test_wf_watcher : (Instr.inputChange 1 22 []).wf = false := by decide
theorem test_wf_fetch : (Instr.fetchComplete 1 (.data [0])).wf = false := by decide
theorem test_wf_page_number : (Instr.waitExpiry 65536).wf = false := by decide

/-! ### Rows and records -/

/-- No row of the opcode table gives bits, so no word spells a command (log 1). -/
theorem test_no_word_spells : decodeTableWord 0 0 = none := by decide

theorem test_word_leaves_queue : State.reset.withFetchWord 32 5 = State.reset := rfl

/-- A SET_SOURCE record written out byte by byte: kind 4 at byte 12, its arguments from byte 32 (11, R189,
R195). -/
theorem test_record_set_source :
    decodeRecord lk ([255, 0, 0, 0, 0, 0, 0, 0, 1, 0, 0, 0, 4, 0] ++ List.replicate 18 0 ++ [122, 1] ++
      List.replicate 94 0) = some (.setSource lk 122 1) := by decide

/-- Kind 40 is in no catalogue row (11, R195). -/
theorem test_record_unknown_kind : decodeRecord lk (List.replicate 12 0 ++ [40] ++ List.replicate 115 0) = none := by
  decide

/-! ### Values that the spec works out -/

/-- 1.8: the sixth step of a fade from −256 to −64 in 12 steps, LINEAR, EARLY and LATE. -/
theorem test_fade_sixth_step : fadeLevel (-256) (-64) 12 6 .linear = -160 ∧
    fadeLevel (-256) (-64) 12 6 .early = -112 ∧ fadeLevel (-256) (-64) 12 6 .late = -208 := by decide

/-- 1.8: 16 ms is 12 control periods, and 100 ms is 75. -/
theorem test_fade_duration : (16 * 48000 + 63999) / 64000 = 12 ∧ (100 * 48000 + 63999) / 64000 = 75 := by decide

/-- 1.8, 2.8 and 6.2: gains of effective levels −224, −208, −32, +64 and −384. -/
theorem test_gains : gain (-224) = 2896 ∧ gain (-208) = 3444 ∧ gain (-32) = 23170 ∧ gain 64 = 65536 ∧
    gain (-384) = 512 := by decide

/-- 1.8: the gain within the period after the sixth step. -/
theorem test_gain_within_period : rampGain ⟨2896, 3444⟩ 0 = 2904 ∧ rampGain ⟨2896, 3444⟩ 31 = 3170 ∧
    rampGain ⟨2896, 3444⟩ 63 = 3444 := by decide

/-- 5.4: the limiter catching a loud entry. -/
theorem test_limiter : limiterStep (-64) 16 1 6000000 0 = -16 ∧ limiterStep (-64) 16 1 5200000 (-16) = -32 ∧
    limiterStep (-64) 16 1 4300000 (-32) = -48 ∧ limiterStep (-64) 16 1 3700000 (-48) = -47 ∧
    limiterStep (-64) 16 1 3720000 (-47) = -46 := by decide

/-! ### Witnesses: states -/

/-- A running part at 48 kHz in sample 1000, whose window 0 holds 16 MiB and may be read and written. -/
def up : State := { State.reset with
  ml := { Ml.reset with
    part := .running, run := true, windows := (Vector.replicate 16 Window.reset).set 0 ⟨65536, 0xFFFFFF, true, true,
      true⟩
    setup := some ⟨48000, false, 0x0F, 1000, 100, 4096, 1, ⟨0, 0⟩, ⟨0, 128⟩, ⟨0, 256⟩, ⟨0, 8192⟩⟩
    position := some ⟨0, 0⟩, freeHead := some ⟨0, 128⟩, anchor := some ⟨0, 256⟩, pollInterval := 1000
    pollStart := 1000, nextStatus := 4800 }
  ck := { Ck.reset with now := 1000, rate := 48000 }
  mx := { Mx.reset with nextPeriod := 1024 } }

/-- A sounding voice in the middle of a long sample. -/
def heard (v : Nat) : State := up.setVoice v { Voice.reset with
  st := .playing, owner := .host, desc := some ⟨0, 0, 1000, 0, 0, .once⟩, pos := ⟨false, 10, some 0, 10, false⟩
  fpos := ⟨false, 256, some 0, 256, false⟩, blocks := [⟨0, List.replicate 256 7⟩] }

/-- The state with the reads `l` outstanding. -/
def withReads (s : State) (l : List Outstanding) : State := { s with ml := { s.ml with slots := l } }

/-- The state with the records `l` in flight. -/
def withFlight (s : State) (l : List InFlight) : State := { s with ml := { s.ml with inflight := l } }

theorem ready_of {s : State} (h : s.ml = up.ml) (n : s.notices = []) : s.Ready lk where
  running := by rw [h]; rfl
  quiet := n
  room := by rw [h]; decide
  noLook := by rw [h]; decide
  body := by rw [h]; decide
  last := by rw [h]; decide

theorem reports_of {s : State} (h : s.ml = up.ml) : s.Reports 2 where
  running := by rw [h]; rfl
  room := by rw [h]; decide
  unknown := by rw [h]; rfl

theorem reports_any {s : State} {n : Nat} (h : s.ml.part = .running) (k : s.ml.queue = [])
    (u : s.ml.nextLink = .unknown) (hn : n ≤ 64) : s.Reports n := ⟨h, by rw [k]; simpa using hn, u⟩

theorem reports_one {s : State} (h : s.ml.part = .running) (k : s.ml.queue = []) (u : s.ml.nextLink = .unknown) :
    s.Reports 1 := reports_any h k u (by decide)

theorem tget_replicate {α : Type} (n i : Nat) (x : α) : tget (Vector.replicate n x) i x = x := by
  by_cases h : i < n <;> simp [tget, h]

theorem up_voice (v : Nat) : up.voice v = Voice.reset := tget_replicate _ _ _
theorem up_zone (z : Nat) : up.zone z = Zone.reset := tget_replicate _ _ _
theorem up_mix (m : Nat) : up.mix m = Mix.reset := tget_replicate _ _ _

/-! ### Witnesses: steps, resets, registers, starts and stops -/

theorem witness_StepRunsFrontCommand :
    ({ up with pending := [.wake, .go lk] } : State).pending = .wake :: [.go lk] ∧ up.pending = [] := ⟨rfl, rfl⟩

theorem witness_PowerOnLeavesResetValues :
    122 < 123 ∧ 24 < 25 ∧ 1 ≤ 32 ∧ 1 ≤ 64 ∧ 1 ≤ 16 ∧ 1 ≤ 24 := by decide

theorem witness_SoftResetKeepsRootAndReads :
    (withReads up [⟨.chainLink, 65536, 8, lk⟩, ⟨.orphan, 65536, 64, lk⟩]).ml.slots =
      [⟨.chainLink, 65536, 8, lk⟩] ++ ⟨.orphan, 65536, 64, lk⟩ :: [] ∧
    ∀ o ∈ ([⟨.chainLink, 65536, 8, lk⟩] : List Outstanding), o.use ≠ .orphan := ⟨rfl, by decide⟩

theorem witness_RegisterWindowWrites : up.notices = [] := rfl

theorem witness_LooksOwedByWakeAndPoll :
    (up.ml.part = .running ∧ up.ml.reader = .waiting) ∧
    (({ up with ml := { up.ml with reader := .looking } } : State).ml.part = .running ∧
      ({ up with ml := { up.ml with reader := .looking } } : State).ml.reader ≠ .waiting) ∧
    State.reset.ml.part ≠ .running := by decide

/-- `up` with ROOT at `a`, in a part state. -/
def atRoot (p : PartState) (a : Wide) : State := { State.reset with ml := { Ml.reset with part := p, root := a } }

theorem witness_RunOneStarts :
    let busy := withReads (atRoot .stopped 64) (List.replicate 8 ⟨.orphan, 64, 4, lk⟩)
    let left : State := { atRoot .starting 64 with ml := { (atRoot .starting 64).ml with abandoned := true } }
    (atRoot .stopped 64).notices = [] ∧ up.ml.run = true ∧ (atRoot .stopped 64).ml.run = false ∧
    (atRoot .stopped 64).ml.part = .stopped ∧ (atRoot .stopped 64).ml.root.toNat ≠ 0 ∧
    (atRoot .stopped 64).ml.root.toNat % 64 = 0 ∧ (atRoot .stopped 64).ml.slots.length < 8 ∧
    (∀ o ∈ (atRoot .stopped 64).ml.slots, isOwnRead o.use = false) ∧ 8 ≤ busy.ml.slots.length ∧
    (atRoot .stopped 0).ml.root.toNat = 0 ∧ (atRoot .stopped 63).ml.root.toNat % 64 ≠ 0 ∧
    (atRoot .stopping 0).ml.run = false ∧ (atRoot .stopping 0).ml.part = .stopping ∧
    left.ml.run = false ∧ left.ml.part = .starting ∧ left.ml.abandoned = true := by decide

/-- A last cue without actions. -/
def lastCue : Cue := ⟨4095, 41, none, .manual, 0, 0, [], 0, [], []⟩

/-- The cue of the fire slot, its voice primed. -/
def firedCue : Cue := { lastCue with count := 1, actions := [⟨0, .startVoice 64 noDesc⟩], primes := [⟨0, 64, .primed⟩] }

/-- The fire slot WAITING on that cue. -/
def firing : State :=
  let s := up.setVoice 64 { Voice.reset with st := .primed, owner := .await true }
  { s with ce := { s.ce with fire := .waiting, fireCue := some firedCue } }

/-- A recall at its header. -/
def theRecall : Recall := ⟨9, some lk, ⟨0, 512⟩, 0, .linear, .header, 0, 0, 0, [], true⟩

def recallOne : State := { up with fb := { up.fb with recalls := [theRecall] } }

/-- STOPPING with RUN set again. -/
def stoppingAgain : State := { atRoot .stopping 64 with ml := { (atRoot .stopping 64).ml with run := true } }

theorem witness_RunZeroStops :
    let s := withFlight up [⟨lk, 35, .relock, false⟩, ⟨lk, 13, .seqArm, true⟩]
    (up.ml.run = true ∧ State.reset.ml.run = false ∧ s.ml.part = .running ∧ s.ce.fire = .idle ∧
      ∀ e ∈ s.ml.inflight, s.ml.allows (linkPlus e.r 9) 15 true = true ∧
        s.ml.allows (linkPlus e.r 8) 1 true = true) ∧
    (firing.ml.run = true ∧ firing.ml.part = .running ∧ firing.ce.fire = .waiting ∧ firing.ce.fireArm = none ∧
      firing.ce.fireCue = some firedCue ∧ firedCue.primes = [⟨0, 64, .primed⟩] ∧
      (∀ o ∈ firing.ml.slots, o.use ≠ .arming true true) ∧ (firing.voice 64).st = .primed ∧
      (firing.voice 64).owner = .await true ∧ (firing.voice 64).fetch = none ∧ (firing.voice 64).waiting = none) ∧
    ((⟨lk, 21, .scene 9, false⟩ : InFlight).job = .scene 9 ∧ recallOne.recallOf 9 = some theRecall ∧
      (⟨lk, 18, .fireArm, false⟩ : InFlight).job = .fireArm) := by decide

theorem witness_RunZeroStops_starting :
    let s : State := { atRoot .starting 64 with ml := { (atRoot .starting 64).ml with run := true } }
    let out := withReads s [⟨.root, 64, 128, lk⟩]
    let left (b : Bool) : State := { out with ml := { out.ml with run := b, abandoned := true } }
    s.ml.run = true ∧ s.ml.part = .starting ∧ (∃ o ∈ out.ml.slots, o.use = .root ∨ o.use = .startTable) ∧
    (∀ o ∈ s.ml.slots, o.use ≠ .root ∧ o.use ≠ .startTable) ∧ stoppingAgain.ml.run = true ∧
    stoppingAgain.ml.part = .stopping ∧ (left false).ml.part = .starting ∧ (left false).ml.abandoned = true ∧
    (left false).ml.slots = [⟨.root, 64, 128, lk⟩] ∧ (left false).ml.run = false ∧ (left true).ml.run = true ∧
    (left true).ml.root.toNat ≠ 0 ∧ (left true).ml.root.toNat % 64 = 0 := by decide

/-- A root block at the ends of its ranges: 96 kHz, external, 16 windows. -/
def goodRoot : List Byte :=
  toLe 4 96000 ++ [1, 0x0F, 0, 0] ++ toLe 4 100 ++ toLe 4 10 ++ toLe 8 4096 ++ [16] ++ List.replicate 103 0

/-- A root block that names no window. -/
def badRoot : List Byte := toLe 4 48000 ++ List.replicate 124 0

theorem witness_RootBlockIsJudged :
    let s := withReads (atRoot .starting 64) [⟨.root, 64, 128, lk⟩]
    s.ml.part = .starting ∧ s.notices = [] ∧ s.ml.slots = [⟨.root, 64, 128, lk⟩] ∧ s.ml.abandoned = false ∧
    fieldAt goodRoot 0 4 = 96000 ∧ fieldAt goodRoot 4 1 ≤ 1 ∧ fieldAt goodRoot 16 8 % 16 = 0 ∧
    1 ≤ fieldAt goodRoot 24 1 ∧ fieldAt goodRoot 24 1 ≤ 16 ∧ fieldAt badRoot 24 1 = 0 := by decide

/-- One window table entry: base 65536, 16 MiB, both rights, valid. -/
def oneWindow : List Byte := toLe 8 65536 ++ toLe 4 0xFFFFFF ++ [3, 1, 0, 0]

/-- STARTING with the table read outstanding. -/
def tableRead : State := { atRoot .starting 64 with
  ml := { (atRoot .starting 64).ml with setup := up.ml.setup, slots := [⟨.startTable, 4096, 16, lk⟩] } }

def upSetup : Setup := ⟨48000, false, 0x0F, 1000, 100, 4096, 1, ⟨0, 0⟩, ⟨0, 128⟩, ⟨0, 256⟩, ⟨0, 8192⟩⟩

theorem witness_WindowTableEntersRunning :
    tableRead.ml.slots = [⟨.startTable, 4096, 16, lk⟩] ∧ tableRead.ml.abandoned = false ∧
    tableRead.ml.setup = some upSetup ∧
    ({ tableRead.ml with windows := windowSet oneWindow upSetup.count }).linksOk upSetup = true ∧
    ({ tableRead.ml with windows := windowSet (List.replicate 16 0) upSetup.count }).linksOk upSetup = false := by
  decide

/-- STOPPING, its closing period computed. -/
def stoppingNow : State := { up with
  ml := { up.ml with part := .stopping, run := false }
  mx := { up.mx with closingDone := true } }

theorem witness_StoppingEndsAtReset :
    stoppingNow.ml.part = .stopping ∧ stoppingNow.ml.setup = some upSetup ∧ stoppingNow.ml.slots = [] ∧
    stoppingNow.mx.closingDone = true ∧ stoppingNow.ml.run = false ∧
    stoppingNow.ml.allows upSetup.status 4096 true = true ∧
    (withReads stoppingNow [⟨.fetch 1, 0, 4, lk⟩]).ml.slots ≠ [] ∧
    ({ stoppingNow with mx := up.mx } : State).mx.closingDone = false := by decide

/-- STOPPING at its end, window 0 not writable and windows 1–15 as before, with a next link. -/
def refusedPage (n : NextLink) (head anchor : Link) : State := { stoppingNow with
  ml := { stoppingNow.ml with
    nextLink := n, freeHead := some head, anchor := some anchor
    windows := ((Vector.replicate 16 Window.reset).set 0 ⟨65536, 0xFFFFFF, true, false, true⟩).set 15
      ⟨0x40000000, 0xFFFF, true, true, true⟩ } }

theorem witness_StoppingEndsAtReset_refused :
    let s := refusedPage (.known ⟨15, 64⟩) ⟨15, 32⟩ ⟨15, 0⟩
    s.ml.part = .stopping ∧ s.ml.setup = some upSetup ∧ s.ml.slots = [] ∧ s.mx.closingDone = true ∧
    s.ml.run = false ∧ s.ml.allows upSetup.status 4096 true = false ∧ s.ml.queue = [] ∧ s.ml.queue.length < 64 ∧
    s.ml.allows ⟨15, 32⟩ 32 true = true ∧ s.ml.allows ⟨15, 0⟩ 8 true = true ∧
    (refusedPage .unknown lk lk).ml.nextLink = .unknown := by decide

/-- A refused last page still reports WINDOW_FAULT where a slot is known (11, R196, R197, R199). -/
theorem test_refused_last_page :
    (match exec .stoppingEnd (refusedPage (.known ⟨15, 64⟩) ⟨15, 32⟩ ⟨15, 0⟩) with
      | .next t => decide (t.ml.part = .stopped) &&
          decide ((t.ml.writes.drop stoppingNow.ml.writes.length).map (fun w => w.runs.map (·.1)) =
            [[0x40000020, 0x4000002C], [0x40000000]])
      | _ => false) = true := by decide +kernel

/-- The chain reader in a state, with seven reads of others outstanding. -/
def reading (r : Reader) : State :=
  { up with ml := { up.ml with reader := r, slots := List.replicate 7 ⟨.fetch 1, 65536, 4, lk⟩ } }

theorem fetches_only {n : Nat} {o : Outstanding} (h : o ∈ List.replicate n (⟨.fetch 1, 65536, 4, lk⟩ : Outstanding)) :
    o.use ≠ .chainLink ∧ ∀ k, o.use ≠ .chainRecord k := by
  rw [List.eq_of_mem_replicate h]
  exact ⟨by decide, fun _ e => by cases e⟩

theorem witness_GrantGoesByUserOrder_own :
    let s : State := { reading .waiting with ml := { (reading .waiting).ml with loads := [⟨lk, 4096, 2⟩] } }
    s.ml.part = .running ∧ s.notices = [] ∧ s.ml.slots.length < 8 ∧ s.ml.loads = ⟨lk, 4096, 2⟩ :: [] ∧
    ∀ o ∈ s.ml.slots, isOwnRead o.use = false := by decide

theorem witness_GrantGoesByUserOrder :
    (reading .looking).ml.part = .running ∧ (reading .looking).notices = [] ∧ (reading .looking).ml.slots.length < 8 ∧
    (reading .looking).ml.loads = [] ∧ (reading .looking).ml.headWanted = false ∧
    (reading .looking).ml.position = some ⟨0, 0⟩ ∧
    (∀ o ∈ (reading .looking).ml.slots, o.use ≠ .chainLink ∧ ∀ k, o.use ≠ .chainRecord k) ∧
    (reading .looking).ml.allows ⟨0, 0⟩ 8 false = true ∧
    (reading (.reading lk)).ml.reader = .reading lk ∧ (reading (.reading lk)).ml.allows lk 128 false = true ∧
    (reading (.reading ⟨16, 0⟩)).ml.allows ⟨16, 0⟩ 128 false = false ∧ (reading (.reading ⟨16,
      0⟩)).ml.lookOwed = false ∧
    (reading (.reading ⟨16, 0⟩)).Reports 1 ∧
    8 ≤ (withReads up (List.replicate 8 ⟨.fetch 1, 65536, 4, lk⟩)).ml.slots.length ∧ up.grantDue = none ∧
    ∃ t, exec (.causeClear 0) up = .next t :=
  ⟨rfl, rfl, by decide, rfl, rfl, rfl, fun _ h => fetches_only h, by decide, rfl, by decide, by decide, rfl,
    reports_one rfl rfl rfl, by decide, by decide +kernel, _, rfl⟩

/-- The report writer waiting for its head slot, in window `w`, with one report in its queue. -/
def reportWanted (w : Nat) : State := { up with ml := { up.ml with
  headWanted := true, freeHead := some ⟨w, 128⟩, queue := [⟨3, 1, 0, 0, 0, 9⟩] } }

theorem witness_GrantGoesByUserOrder_reports :
    (reportWanted 0).ml.part = .running ∧ (reportWanted 0).notices = [] ∧ (reportWanted 0).ml.slots.length < 8 ∧
    (reportWanted 0).ml.loads = [] ∧ (reportWanted 0).ml.headWanted = true ∧ (reportWanted 0).ml.headReadOut = false ∧
    (reportWanted 0).ml.freeHead = some ⟨0, 128⟩ ∧ (reportWanted 0).ml.allows ⟨0, 128⟩ 8 false = true ∧
    (reportWanted 16).ml.freeHead = some ⟨16, 128⟩ ∧ (reportWanted 16).ml.allows ⟨16, 128⟩ 8 false = false ∧
    (reportWanted 16).ml.queue = [⟨3, 1, 0, 0, 0, 9⟩] ∧ 3 < 4 ∧ tget (reportWanted 16).ml.lost 3 0 < 2 ^ 32 - 1 := by
  decide

/-- An arming of the sequence or of the fire slot at its first read, its book in window `w`. -/
def armWanted (fire : Bool) (w : Nat) : State :=
  let a : Arming := ⟨Cue.start 4095, .index⟩
  { up with ce := if fire then { up.ce with book := some ⟨w, 0⟩, fire := .arming, fireArm := some a }
      else { up.ce with book := some ⟨w, 0⟩, seq := .arming, seqArm := some a } }

theorem witness_GrantGoesByUserOrder_arming (fire : Bool) :
    (armWanted fire 0).ml.part = .running ∧ (armWanted fire 0).notices = [] ∧
    (armWanted fire 0).ml.slots.length < 8 ∧ (armWanted fire 0).ml.loads = [] ∧
    (armWanted fire 0).ml.headWanted = false ∧ (armWanted fire 0).ml.reader = .waiting ∧
    (fire = true → (armWanted fire 0).ce.seqArm = none) ∧
    (armWanted fire 0).arming fire = some ⟨Cue.start 4095, .index⟩ ∧ (armWanted fire 0).ce.book = some ⟨0, 0⟩ ∧
    (∀ o ∈ (armWanted fire 0).ml.slots, ∀ live, o.use ≠ .arming fire live) ∧
    (armWanted fire 0).ml.allows (linkPlus ⟨0, 0⟩ (8 * 4095)) 8 false = true ∧
    (armWanted fire 16).ml.allows (linkPlus ⟨16, 0⟩ (8 * 4095)) 8 false = false ∧ (armWanted fire 16).Reports 2 ∧
    (Cue.start 4095).primes = [] ∧ (armWanted fire 16).ce.latched = none ∧
    ∀ e ∈ (armWanted fire 16).ml.inflight, e.job ≠ armJob fire := by
  cases fire <;>
    exact ⟨rfl, rfl, by decide, rfl, rfl, rfl, by decide, rfl, rfl, by decide, by decide, by decide,
      reports_any rfl rfl rfl (by decide), rfl, rfl, by decide⟩

/-- Two recalls at their headers, the second of the lower number and in window `w`. -/
def twoRecalls (w : Nat) : State := { up with fb := { up.fb with
  recalls := [theRecall, { theRecall with number := 8, link := ⟨w, 512⟩ }] } }

theorem witness_GrantGoesByUserOrder_recalls :
    (twoRecalls 0).ml.part = .running ∧ (twoRecalls 0).notices = [] ∧ (twoRecalls 0).ml.slots.length < 8 ∧
    (twoRecalls 0).ml.loads = [] ∧ (twoRecalls 0).ml.headWanted = false ∧ (twoRecalls 0).ml.reader = .waiting ∧
    (twoRecalls 0).ce.seqArm = none ∧ (twoRecalls 0).ce.fireArm = none ∧
    (twoRecalls 0).fb.recalls = [theRecall, { theRecall with number := 8 }] ∧ 8 < theRecall.number ∧
    theRecall.step = .header ∧ (∀ o ∈ (twoRecalls 0).ml.slots, ∀ n, o.use ≠ .scene n) ∧
    (twoRecalls 0).ml.allows (linkPlus ⟨0, 512⟩ 0) 8 false = true ∧
    (twoRecalls 16).ml.allows (linkPlus ⟨16, 512⟩ 0) 8 false = false ∧ (twoRecalls 16).Reports 2 ∧
    ∀ e ∈ (twoRecalls 16).ml.inflight, e.job ≠ .scene 8 :=
  ⟨rfl, rfl, by decide, rfl, rfl, rfl, rfl, rfl, rfl, by decide, rfl, fun _ h => (by cases h), by decide, by decide,
    reports_any rfl rfl rfl (by decide), fun _ h => (by cases h)⟩

/-- Voice 64, the only one scheduled, waiting for its second block, its sample in window `w`. -/
def fetchWanted (w : Nat) : State :=
  let s := up.setVoice 64 { Voice.reset with
    st := .priming, owner := .host, desc := some ⟨w, 0, 1000, 0, 0, .once⟩, start := .whenPrimed
    pos := ⟨false, 0, some 0, 0, false⟩, fpos := ⟨false, 256, some 0, 256, false⟩
    blocks := [⟨0, List.replicate 256 7⟩] }
  { s with vu := { s.vu with table := [64] } }

theorem witness_GrantGoesByUserOrder_walker (w : Nat) :
    (fetchWanted w).fb.recalls = [] ∧ (fetchWanted w).vu.table = [64] ∧ (fetchWanted w).vu.index = 0 ∧
    ((fetchWanted w).voice 64).st = .priming ∧ ((fetchWanted w).voice 64).blocks.length < 8 ∧
    ((fetchWanted w).voice 64).fetch = none ∧
    ((fetchWanted w).voice 64).pos.idx ≤ ((fetchWanted w).voice 64).fpos.idx ∧
    ((fetchWanted w).voice 64).fpos.done = false ∧ ((fetchWanted w).voice 64).fpos.second = false ∧
    ((fetchWanted w).voice 64).desc = some ⟨w, 0, 1000, 0, 0, .once⟩ ∧ (fetchWanted w).Loose 64 ∧
    (fetchWanted w).Reports 3 ∧
    (fetchWanted 0).ml.allows ⟨0, 0 + 4 * 256⟩
      (4 * runLength ⟨0, 0, 1000, 0, 0, .once⟩ ((fetchWanted 0).voice 64).fpos) false = true ∧
    (fetchWanted 16).ml.allows ⟨16, 0 + 4 * 256⟩
      (4 * runLength ⟨16, 0, 1000, 0, 0, .once⟩ ((fetchWanted 16).voice 64).fpos) false = false :=
  ⟨rfl, rfl, rfl, rfl, show 1 < 8 by decide, rfl, show 0 ≤ 256 by decide, rfl, rfl, rfl,
    ⟨rfl, rfl, fun _ h => (by cases h), show inSet (0 : BitVec 64) 64 = false by decide⟩,
    reports_any rfl rfl rfl (by decide), by decide, by decide⟩

/-! ### Witnesses: time -/

/-- One voice sounding, its path fetched to the end, changed by `f`. -/
def sounding (f : Voice → Voice) : State := up.setVoice 64 (f { Voice.reset with
  st := .playing, owner := .host, desc := some ⟨0, 0, 256, 0, 0, .once⟩, pos := ⟨false, 10, some 0, 10, false⟩
  fpos := ⟨false, 256, none, 256, true⟩, blocks := [⟨0, List.replicate 256 7⟩] })

theorem witness_SamplePeriodCounts_voice :
    let a := sounding fun x => { x with st := .tailing, stop := .after, tail := 5, ramp := some ⟨32768, 0, 63⟩ }
    let b := sounding fun x => { x with blocks := [], underruns := 65534 }
    let c := sounding fun x => { x with blocks := [], inUnderrun := true }
    (a.ml.part = .running ∧ a.notices = [] ∧ a.dueStep = none ∧ (∀ u,
      1 ≤ u → u ≤ 64 → u ≠ 64 → (a.voice u).sounds = false) ∧
      (a.voice 64).st = .tailing ∧ (a.voice 64).pos.done = false ∧ (a.voice 64).desc2 = none ∧
      heldWord (a.voice 64).blocks (a.voice 64).pos.idx = some 7) ∧
    (b.dueStep = none ∧ (b.voice 64).st = .playing ∧ heldWord (b.voice 64).blocks (b.voice 64).pos.idx = none ∧
      (b.voice 64).inUnderrun = false ∧ (b.voice 64).underrunReported = false ∧ (b.voice 64).underruns < 65535 ∧
      (b.voice 64).owner = .host ∧ b.Reports 1) ∧
    (c.dueStep = none ∧ heldWord (c.voice 64).blocks (c.voice 64).pos.idx = none ∧ (c.voice 64).inUnderrun = true) := by
  refine ⟨⟨rfl, rfl, by decide +kernel, fun u h1 _ h => ?_, rfl, rfl, rfl, by decide +kernel⟩,
    ⟨by decide +kernel, rfl, by decide, rfl, rfl, by decide, rfl, reports_one rfl rfl rfl⟩, by decide +kernel,
      by decide, rfl⟩
  rw [sounding, State.voice_setVoice_other _ _ (by decide) h1 (Ne.symm h), up_voice]; rfl

theorem witness_SamplePeriodCounts :
    up.notices = [] ∧ up.ml.part = .running ∧ up.dueStep = none ∧ (∀ v, (up.voice v).sounds = false) ∧
    State.reset.ml.part = .stopped :=
  ⟨rfl, rfl, by decide +kernel, fun v => by rw [up_voice]; rfl, rfl⟩

/-- A period boundary, with one fade that moves and one that is frozen. -/
def boundary : State := { up with
  lv := { up.lv with fades := [⟨.channel 122, .host, off, 0, 12, 10, .linear, false, false⟩,
    ⟨.zoneLevel 32, .cue 7, 0, -64, 12, 11, .early, false, true⟩,
    ⟨.crosspoint 8 121, .host, 0, 64, 2, 0, .late, false, false⟩] }
  mx := { (up.setBus 8 { Bus.reset with list := [⟨121, 0, false, false, ⟨0, 0⟩⟩] }).mx with nextPeriod := 1000 } }

theorem witness_ControlPeriodStepsFades_idle :
    up.ml.part = .running ∧ up.notices = [] ∧ up.ck.now < up.mx.nextPeriod := by decide

def movingFades : State := { boundary with lv := { boundary.lv with fades := boundary.lv.fades.eraseIdx 1 ++
  [⟨.zoneLevel 32, .cue 7, 0, -64, 12, 10, .early, false, true⟩] } }

theorem witness_ControlPeriodStepsFades :
    movingFades.ml.part = .running ∧ movingFades.notices = [] ∧ movingFades.mx.nextPeriod ≤ movingFades.ck.now ∧
    (movingFades.lv.fades.map (·.target)).Nodup ∧
    ∀ f ∈ movingFades.lv.fades, f.target.wf = true ∧ f.k + 1 < f.d ∧
      ∀ b c, f.target = .crosspoint b c → (movingFades.contrib b c).isSome = true := by
  refine ⟨rfl, rfl, by decide, by decide, ?_⟩
  intro f hf
  have : f = ⟨.channel 122, .host, off, 0, 12, 10, .linear, false, false⟩ ∨
      f = ⟨.crosspoint 8 121, .host, 0, 64, 2, 0, .late, false, false⟩ ∨
      f = ⟨.zoneLevel 32, .cue 7, 0, -64, 12, 10, .early, false, true⟩ := by
    simpa [movingFades, boundary] using hf
  rcases this with rfl | rfl | rfl
  · exact ⟨by decide, by decide, fun _ _ e => by cases e⟩
  · refine ⟨by decide, by decide, fun b c e => ?_⟩
    cases e; decide
  · exact ⟨by decide, by decide, fun _ _ e => by cases e⟩

theorem witness_ControlPeriodStepsFades_first :
    let s : State := { movingFades with ck := { up.ck with now := 0 }, mx := { movingFades.mx with nextPeriod := 0 } }
    s.ml.part = .running ∧ s.notices = [] ∧ s.mx.nextPeriod ≤ s.ck.now ∧ s.ck.now = 0 ∧
    s.lv.fades = movingFades.lv.fades ∧ 0 < movingFades.ck.now := by decide

/-- One fade of a channel. -/
def lastStep (k : Nat) (frozen : Bool) : State := { boundary with
  lv := { up.lv with fades := [⟨.channel 122, .host, off, 0, 12, k, .linear, false, frozen⟩] } }

theorem witness_FadeCompletesAtTarget :
    (lastStep 11 false).ml.part = .running ∧ (lastStep 11 false).notices = [] ∧
    (lastStep 11 false).mx.nextPeriod ≤ (lastStep 11 false).ck.now ∧
    (lastStep 11 false).fadeOn (.channel 122) = some ⟨.channel 122, .host, off, 0, 12, 11, .linear, false, false⟩ ∧
    (lastStep 10 false).fadeOn (.channel 122) = some ⟨.channel 122, .host, off, 0, 12, 10, .linear, false, false⟩ ∧
    (lastStep 11 true).fadeOn (.channel 122) = some ⟨.channel 122, .host, off, 0, 12, 11, .linear, false, true⟩ ∧
    12 ≤ 11 + 1 ∧ 10 + 1 < 12 := by decide

/-- A page that waits until sample 1000, LIVE or RECORDED. -/
def waitingPage (live : Bool) : Page := ⟨7, 1, false, 1, 0, 1, live, 1, some 100, 60, none, none, .waiting, 0, none,
    false, false,
  some 1000, none, []⟩

/-- Zone 32 in its attack for the LIVE page 7, one step before the end. -/
def attacking : State :=
  let s := up.setZone 32 { Zone.reset with holder := some 7, duckFade := .attack, groups := 0x80 }
  { s with
    lv := { s.lv with fades := [⟨.duck 32, .relay 32, 0, -320, 225, 224, .linear, false, false⟩] }
    rc := { s.rc with pages := [{ waitingPage true with st := .attack }] }
    mx := { s.mx with nextPeriod := 1000 } }

theorem witness_FadeCompletesAtTarget_duck :
    attacking.ml.part = .running ∧ attacking.notices = [] ∧ attacking.mx.nextPeriod ≤ attacking.ck.now ∧
    attacking.fadeOn (.duck 32) = some ⟨.duck 32, .relay 32, 0, -320, 225, 224, .linear, false, false⟩ ∧
    225 ≤ 224 + 1 ∧ (attacking.zone 32).duckFade = .attack ∧ (attacking.zone 32).holder = some 7 ∧
    (∀ y, 1 ≤ y → y ≤ 32 → y ≠ 32 → (attacking.zone y).holder = none) ∧
    attacking.rc.pages = [{ waitingPage true with st := .attack }] ∧ (waitingPage true).live = true ∧
    (waitingPage true).voice = none ∧ attacking.Reports 1 := by
  refine ⟨rfl, rfl, by decide, rfl, by decide, rfl, rfl, fun y h1 _ h => ?_, rfl, rfl, rfl, reports_one rfl rfl rfl⟩
  have e : attacking.zone y = up.zone y := State.zone_setZone_other up _ (by decide) h1 (Ne.symm h)
  rw [e, up_zone]; rfl

/-- A due SET_OUTPUT action and one more of its run. -/
def dueOutput (k v : Nat) (hold : Bool) : State := { up with ce := { up.ce with
  hold := hold
  runs := [⟨7, 0, 0, 0⟩]
  queue := [⟨.at 1000, 7, 0, .setOutput k v, none, none⟩, ⟨.at 9999, 7, 1, .mark 0, none, none⟩] } }

theorem witness_DueActionExecutes :
    (dueOutput 16 1 false).ml.part = .running ∧ (dueOutput 16 1 false).notices = [] ∧
    (dueOutput 16 1 false).ce.queue = ⟨.at 1000, 7, 0, .setOutput 16 1, none, none⟩ ::
      [⟨.at 9999, 7, 1, .mark 0, none, none⟩] ∧
    1000 ≤ (dueOutput 16 1 false).ck.now ∧
    (∃ x ∈ ([⟨.at 9999, 7, 1, .mark 0, none, none⟩] : List Queued), x.run = 7) ∧
    (dueOutput 16 1 false).frozen = false ∧ (dueOutput 17 1 false).frozen = false ∧
    (dueOutput 17 1 false).Reports 1 ∧ (dueOutput 1 1 true).frozen = true ∧
    ({ up with ce := { up.ce with queue := [⟨.remaining 0, 7, 0, .mark 0, none, none⟩] } } : State).ce.queue =
      ⟨.remaining 0, 7, 0, .mark 0, none, none⟩ :: [] :=
  ⟨rfl, rfl, rfl, by decide, ⟨_, .head _, rfl⟩, rfl, rfl, reports_one rfl rfl rfl, rfl, rfl⟩

/-- STANDBY on that cue, its follow timer counting. -/
def standby : State := { up with ce := { up.ce with
  book := some ⟨0, 0⟩, seq := .standby, armed := some lastCue, follow := .counting (.at 1000) } }

theorem standby_stands : standby.Stands lastCue := ⟨rfl, rfl, rfl, by decide, by decide, by decide, by decide⟩

theorem standby_last : standby.LastCue lastCue := ⟨standby_stands, rfl, rfl, rfl⟩

/-- A cue with two actions and a next cue. -/
def nextCue : Cue := ⟨0, 41, some 4095, .followGo, 0, 2, [⟨0, .setOutput 16 1⟩, ⟨1, .setOutput 1 0⟩], 0, [], []⟩

def standbyNext : State := { standby with ce := { standby.ce with armed := some nextCue } }

theorem standby_next : standbyNext.NextCue nextCue 16 1 1 1 0 4095 :=
  ⟨⟨rfl, rfl, rfl, by decide, by decide, by decide, by decide⟩, rfl, rfl, rfl, rfl, by decide, by decide, by decide⟩

theorem witness_FollowTimerExpires :
    standby.ml.part = .running ∧ standby.notices = [] ∧ standby.ce.follow = .counting (.at 1000) ∧
    1000 ≤ standby.ck.now ∧ standby.LastCue lastCue ∧ standby.Reports 2 ∧
    standbyNext.NextCue nextCue 16 1 1 1 0 4095 ∧ standbyNext.Reports 1 ∧
    ({ standby with ce := { standby.ce with follow := .counting (.remaining 0) } } : State).ce.follow =
      .counting (.remaining 0) ∧
    ({ standby with ce := { standby.ce with seq := .arming, armed := none } } : State).ce.seq = .arming ∧
    ({ standby with ck := { standby.ck with now := 999 } } : State).ck.now < 1000 :=
  ⟨rfl, rfl, rfl, by decide, standby_last, reports_of rfl, standby_next, reports_one rfl rfl rfl, rfl, rfl, by decide⟩

/-! ### Witnesses: voices and pages in time -/

/-- Voice 64 PRIMED, its record in flight. -/
def primed : State := withFlight (up.setVoice 64 { Voice.reset with
  st := .primed, owner := .host, desc := some ⟨0, 0, 1000, 0, 0, .once⟩, start := .whenPrimed, startFrom := 1000
  blocks := [⟨0, List.replicate 256 7⟩, ⟨256, List.replicate 256 7⟩], fpos := ⟨false, 512, some 0, 512, false⟩ })
  [⟨lk, 8, .startVoice 64 false, false⟩]

theorem witness_HostVoiceStarts :
    primed.ml.part = .running ∧ primed.notices = [] ∧ (primed.voice 64).st = .primed ∧
    (primed.voice 64).owner = .host ∧ (primed.voice 64).start = .whenPrimed ∧ (primed.voice 64).pos.done = false ∧
    heldWord (primed.voice 64).blocks (primed.voice 64).pos.idx = some 7 ∧
    primed.ml.inflight = [⟨lk, 8, .startVoice 64 false, false⟩] ∧ primed.ml.reader ≠ .blocked ∧
    primed.ml.allows (linkPlus lk 9) 15 true = true ∧ primed.ml.allows (linkPlus lk 8) 1 true = true ∧
    (primed.voice 64).startFrom ≤ primed.ck.now ∧ primed.interlocked = false ∧
    ({ primed with ck := { primed.ck with now := 999 } } : State).ck.now < (primed.voice 64).startFrom := by
  decide +kernel

/-- Voice 1 at an end: `f` sets what has ended. -/
def ending (f : Voice → Voice) : State := (heard 1).setVoice 1 (f ((heard 1).voice 1))

theorem ending_loose (f : Voice → Voice) (h : (f ((heard 1).voice 1)).owner = .host)
    (k : (f ((heard 1).voice 1)).waiting = none) : (ending f).Loose 1 := by
  have e : (ending f).voice 1 = f ((heard 1).voice 1) := State.voice_setVoice _ _ (by decide) (by decide)
  exact ⟨e ▸ h, e ▸ k, fun _ h => (by cases h), show inSet (0 : BitVec 64) 1 = false by decide⟩

theorem witness_VoicesEndThroughDraining :
    let done := ending fun x => { x with pos := { x.pos with done := true } }
    let cut := ending fun x => { x with stop := .cut }
    let pause := ending fun x => { x with stop := .cut, st := .paused }
    let wait := ending fun x => { x with pos := { x.pos with done := true }, fetch := some ⟨0, false, 0, 4, true⟩ }
    (done.ml.part = .running ∧ done.notices = [] ∧ done.Reports 1 ∧ done.Loose 1 ∧ (done.voice 1).st = .playing ∧
      (done.voice 1).pos.done = true ∧ (done.voice 1).fetch = none) ∧
    (cut.Loose 1 ∧ (cut.voice 1).st = .playing ∧ (cut.voice 1).stop = .cut ∧ (cut.voice 1).ramp = none) ∧
    (pause.Loose 1 ∧ (pause.voice 1).st = .paused ∧ (pause.voice 1).stop = .cut ∧ (pause.voice 1).ramp = none) ∧
    (wait.Loose 1 ∧ (wait.voice 1).pos.done = true ∧ (wait.voice 1).fetch = some ⟨0, false, 0, 4, true⟩) :=
  ⟨⟨rfl, rfl, reports_one rfl rfl rfl, ending_loose _ rfl rfl, rfl, rfl, rfl⟩,
    ⟨ending_loose _ rfl rfl, rfl, rfl, rfl⟩, ⟨ending_loose _ rfl rfl, rfl, rfl, rfl⟩,
    ⟨ending_loose _ rfl rfl, rfl, rfl⟩⟩

theorem witness_TailsFlashesAndBoundaries :
    let s := ending fun x => { x with st := .tailing, stop := .after, tail := 0 }
    s.ml.part = .running ∧ (s.voice 1).st = .tailing ∧ (s.voice 1).stop ≠ .cut ∧ (s.voice 1).tail = 0 ∧
    ({ up with cu := { up.cu with flash := some 999 } } : State).cu.flash = some 999 ∧
    ({ up with ck := { up.ck with silentNext := some 1024 } } : State).ck.silentNext = some 1024 := by decide

def waiting (live : Bool) : State := { up with rc := { up.rc with pages := [waitingPage live] } }

/-- A LIVE page on air in zone 32 until sample 1000. -/
def airPage : Page :=
  { waitingPage true with zones := BitVec.twoPow 32 31, st := .onAir, gate := true, lengthExpiry := some 1000 }

def onAir : State := { up.setZone 32 { Zone.reset with holder := some 7, programme := false } with
  rc := { (up.setZone 32 { Zone.reset with holder := some 7, programme := false }).rc with
    pages := [airPage], mics := (Vector.replicate 2 none).set 0 (some 7) } }

theorem witness_PagesExpire :
    ((waiting true).ml.part = .running ∧ (waiting true).notices = [] ∧ (waiting true).Reports 1 ∧
      (waiting true).page (waitingPage true).id = some (waitingPage true) ∧ (waitingPage true).st = .waiting ∧
      (waitingPage true).waitExpiry = some 1000 ∧ 1000 ≤ (waiting true).ck.now) ∧
    (onAir.ml.part = .running ∧ onAir.Reports 1 ∧ onAir.rc.pages = [airPage] ∧ airPage.st = .onAir ∧
      airPage.live = true ∧ airPage.voice = none ∧ airPage.lengthExpiry = some 1000 ∧
      onAir.lv.fades.length + 32 ≤ 1024 ∧
      (∀ f ∈ onAir.lv.fades, ∀ z, f.target = .duck z → f.owner = .relay z) ∧
      ∀ z, 1 ≤ z → z ≤ 32 → (onAir.zone z).holder = none ∨ (onAir.zone z).holder = some airPage.id) := by
  refine ⟨⟨rfl, rfl, reports_one rfl rfl rfl, rfl, rfl, rfl, by decide⟩, rfl, reports_one rfl rfl rfl, rfl, rfl, rfl,
    rfl,
    rfl, by decide, fun _ h => (by cases h), fun z h1 h2 => ?_⟩
  by_cases h : z = 32
  · subst h; exact .inr rfl
  · refine .inl ?_
    have e : onAir.zone z = up.zone z := State.zone_setZone_other up _ (by decide) h1 (Ne.symm h)
    rw [e, up_zone]; rfl

/-- The same with the DUCK of zone 32 at −320 in its attack, and a release of `ms`. -/
def ducked (ms : Nat) : State :=
  let s := onAir.setZone 32 { onAir.zone 32 with duckFade := .attack, release := ms }
  { s with lv := { s.lv with
    duck := s.lv.duck.setIfInBounds 31 (-320)
    fades := [⟨.duck 32, .relay 32, 0, -960, 225, 75, .linear, false, false⟩] } }

theorem witness_PagesExpire_ducks (ms : Nat) :
    (onAir.zone 32).holder = some airPage.id ∧ onAir.levelOf (.duck 32) = 0 ∧ (onAir.zone 32).duckFade = .none ∧
    (onAir.zone 31).holder = none ∧ (ducked ms).ml.part = .running ∧ (ducked ms).rc.pages = [airPage] ∧
    (ducked ms).lv.fades.length + 32 ≤ 1024 ∧
    (∀ f ∈ (ducked ms).lv.fades, ∀ z, f.target = .duck z → f.owner = .relay z) ∧
    ((ducked ms).zone 32).holder = some airPage.id ∧ (ducked ms).levelOf (.duck 32) ≠ 0 ∧
    ((ducked ms).zone 32).release = ms := by
  refine ⟨rfl, by decide +kernel, rfl, by decide, rfl, rfl, show 1 + 32 ≤ 1024 by decide, fun f h z e => ?_, rfl,
    show tget (Lv.reset.duck.setIfInBounds 31 (-320)) 31 0 ≠ 0 by decide, rfl⟩
  have : f = ⟨.duck 32, .relay 32, 0, -960, 225, 75, .linear, false, false⟩ := List.mem_singleton.1 h
  subst this; cases e; rfl

/-- Input 24 with its debounce time run, or not. -/
def debounced (due : Bool) : State := up.setInput 24 { Input.reset with rise := true, count := 480, due := due }

theorem witness_InputChangeFlips :
    (debounced true).ml.part = .running ∧ (debounced true).notices = [] ∧ (debounced true).cu.mode = .off ∧
    ((debounced true).input 24).due = true ∧ (∀ r ∈ (debounced true).cu.routes, r.input ≠ 24) ∧
    ((debounced false).input 24).due = false := by decide

/-- MARK and INTERLOCK on one input that is watched. -/
def twoRouted : State := { debounced false with
  cu := { (debounced false).cu with
    mode := .event, mask := 1, routes := [⟨.interlock, 1, .closed, false⟩, ⟨.mark, 1, .closed, false⟩] } }

/-- The watcher may act between two functions of one input (08, R162, R165). -/
theorem test_watcher_between :
    (match exec (.inputChange 1 1 [4, 3]) (twoRouted.setInput 1 { Input.reset with due := true }) with
      | .next t => decide (t.ml.queue.map (·.kind) = [repMark, repInputPattern, repInterlockOn])
      | _ => false) = true := by decide +kernel

/-- The clock unit in a state, with edges counted in the window that ends now. -/
def clocked (st : ClockState) (edges : Nat) : State := { up with
  ck := { up.ck with st := st, edges := edges, windowPos := 48000, selected := true, external := true } }

theorem witness_ClockJudgesItsReference :
    let d (e : Nat) : Int := (((clocked .extGood e).ck.edges : Int) - ((clocked .extGood e).ck.rate : Int)) * 1000000
    (clocked .extGood 48000).ml.part = .running ∧ (clocked .extGood 48000).notices = [] ∧
    (clocked .extGood 48000).ck.rate ≤ (clocked .extGood 48000).ck.windowPos ∧
    ((d 48000).tdiv 48000).natAbs < 100 ∧ (clocked .extGood 48000).ck.warn = 100 ∧
    (clocked .intFallback 48000).ck.st = .intFallback ∧ (clocked .extWarn 48000).ck.st = .extWarn ∧
    100 - (clocked .extWarn 48003).ck.hyst ≤ ((d 48003).tdiv 48000).natAbs ∧ ((d 48003).tdiv 48000).natAbs < 500 ∧
    ((d 48002).tdiv 48000).natAbs < 100 - 50 ∧
    100 ≤ ((d 48005).tdiv 48000).natAbs ∧ ((d 48023).tdiv 48000).natAbs < 500 ∧
    (clocked .extGood 47976).ck.change ≤ ((d 47976).tdiv 48000).natAbs ∧ (clocked .extGood 47976).Reports 1 ∧
    (clocked .extGood 47976).ck.selected = true ∧ (clocked .extGood 47976).ck.silentNext = none ∧
    up.ck.windowPos < up.ck.rate ∧ (clocked .extGood 48000).ck.gap < (clocked .extGood 48000).ck.rate / 100 :=
  ⟨rfl, rfl, by decide, by decide, rfl, rfl, rfl, by decide, by decide, by decide, by decide, by decide, by decide,
    reports_one rfl rfl rfl, rfl, rfl, by decide, by decide⟩

/-- Acquiring with `good` windows counted, a RELOCK in flight. -/
def acquiring (edges good : Nat) (fresh : Bool) : State :=
  let s := withFlight (clocked .extAcquiring edges) [⟨lk, 35, .relock, false⟩]
  { s with ck := { s.ck with good := good, acqFresh := fresh, selected := false, external := false } }

theorem witness_ClockJudgesItsReference_acquiring :
    let d (e : Nat) : Int := (((acquiring e 0 true).ck.edges : Int) - ((acquiring e 0 true).ck.rate : Int)) * 1000000
    let s := acquiring 48002 1 false
    (acquiring 48000 0 true).ck.st = .extAcquiring ∧ (acquiring 48000 0 true).ck.acqFresh = true ∧
    (acquiring 48000 0 true).ck.rate ≤ (acquiring 48000 0 true).ck.windowPos ∧
    (acquiring 48003 1 false).ck.warn - (acquiring 48003 1 false).ck.hyst ≤ ((d 48003).tdiv 48000).natAbs ∧
    (acquiring 48002 0 false).ck.good = 0 ∧ ((d 48002).tdiv 48000).natAbs < s.ck.warn - s.ck.hyst ∧
    s.ck.acqFresh = false ∧ s.ck.good = 1 ∧ s.Reports 1 ∧ s.ck.selected = false ∧ s.ck.silentNext = none ∧
    s.ml.inflight = [⟨lk, 35, .relock, false⟩] ∧ s.ml.reader ≠ .blocked ∧
    s.ml.allows (linkPlus lk 9) 15 true = true ∧ s.ml.allows (linkPlus lk 8) 1 true = true :=
  ⟨rfl, rfl, by decide, by decide, rfl, by decide, rfl, rfl, reports_one rfl rfl rfl, rfl, rfl, rfl, by decide,
    by decide, by decide⟩

theorem witness_ClockJudgesItsReference_loss :
    let gone (st : ClockState) : State := { clocked st 0 with ck := { (clocked st 0).ck with gap := 480, windowPos := 480 } }
    (gone .extWarn).ck.rate / 100 ≤ (gone .extWarn).ck.gap ∧ (gone .extWarn).ck.lossRaised = false ∧
    (gone .extWarn).ck.st = .extWarn ∧ (gone .extWarn).Reports 1 ∧ (gone .extWarn).ck.selected = true ∧
    (gone .extWarn).ck.silentNext = none ∧ (gone .extWarn).ck.windowPos < (gone .extWarn).ck.rate ∧ (gone .extAcquiring).ck.st = .extAcquiring ∧
    ({ up with ck := { up.ck with lossRaised := true } } : State).ck.lossRaised = true ∧ up.ck.gap < up.ck.rate / 100 :=
  ⟨by decide, rfl, rfl, reports_one rfl rfl rfl, rfl, rfl, by decide, rfl, rfl, by decide⟩

/-- An edge that follows 10 ms without one does not hide the loss (09, R172). -/
theorem test_edge_after_loss :
    (match exec .wordClockEdge { clocked .extGood 0 with
        ck := { (clocked .extGood 0).ck with gap := 480, windowPos := 480 } } with
      | .next t => decide (t.ck.st = .intFallback) && decide (t.ck.gap = 0) && decide (t.ck.edges = 1)
      | _ => false) = true := by decide +kernel

/-- One edge a sample over a whole window gives n = rate: the edge of the first sample past the window counts in
the next (09, R172). -/
theorem test_edge_after_window :
    (match exec .wordClockEdge (clocked .extGood 48000) with
      | .next t => decide (t.ck.deviation = 0) && decide (t.ck.edges = 1) && decide (t.ck.windowPos = 0)
      | _ => false) = true := by decide +kernel

/-- Window 0 valid for reading only. -/
def readOnly : State := { up with ml := { up.ml with
  nextStatus := 1000
  windows := (Vector.replicate 16 Window.reset).set 0 ⟨65536, 0xFFFFFF, true, false, true⟩ } }

theorem witness_StatusPageIsWritten :
    let s : State := { up with ml := { up.ml with nextStatus := 1000 } }
    s.ml.part = .running ∧ s.ml.setup = some upSetup ∧ s.ml.nextStatus ≤ s.ck.now ∧
    s.ml.allows upSetup.status 4096 true = true ∧ readOnly.ml.nextStatus ≤ readOnly.ck.now ∧
    readOnly.ml.allows upSetup.status 4096 true = false ∧
    readOnly.Reports 1 :=
  ⟨rfl, rfl, by decide, by decide, by decide, by decide, reports_one rfl rfl rfl⟩

/-! ### Witnesses: reads that return -/

/-- The chain reader in a state, with one read outstanding. -/
def returning (r : Reader) (u : ReadUse) (len : Nat) : State :=
  { up with ml := { up.ml with reader := r, slots := [⟨u, 65536, len, lk⟩] } }

theorem witness_ChainReadsAreJudged :
    let s := returning .looking .chainLink 8
    let t := returning (.reading lk) (.chainRecord lk) 128
    (s.ml.part = .running ∧ s.ml.slots = [] ++ ⟨.chainLink, 65536, 8, lk⟩ :: [] ∧ s.ml.reader = .looking ∧
      s.ml.lookOwed = false ∧ isEnd (linkAt (toLe 8 255) 0) = true ∧ isEnd (linkAt (toLe 8 0) 0) = false ∧
      s.Reports 1 ∧ s.ml.position = some ⟨0, 0⟩) ∧
    t.ml.part = .running ∧ t.ml.inflight.length < 8 ∧ t.ml.slots = [⟨.chainRecord lk, 65536, 128, lk⟩] ∧
    t.ml.reader = .reading lk ∧ t.ml.lookOwed = false ∧ fieldAt (toLe 128 0) 8 1 ≠ 1 :=
  ⟨⟨rfl, rfl, rfl, rfl, by decide, by decide, reports_one rfl rfl rfl, rfl⟩, rfl, by decide, rfl, rfl, rfl, by decide⟩

/-- A POSTED record of a kind, with no arguments. -/
def record (kind : Nat) : List Byte := toLe 8 255 ++ [1, 0, 0, 0] ++ toLe 2 kind ++ List.replicate 114 0

theorem witness_TakenRecordRunsItsCommand :
    let s := returning (.reading lk) (.chainRecord lk) 128
    s.ml.part = .running ∧ s.ml.inflight.length < 8 ∧ s.ml.slots = [⟨.chainRecord lk, 65536, 128, lk⟩] ∧
    s.ml.reader = .reading lk ∧ s.ml.allows (linkPlus lk 8) 1 true = true ∧ s.notices = [] ∧
    s.ml.allows (linkPlus lk 9) 15 true = true ∧
    fieldAt (record 15) 8 1 = 1 ∧ decodeRecord lk (record 15) = some (.go lk) ∧
    fieldAt (record 40) 8 1 = 1 ∧ decodeRecord lk (record 40) = none ∧
    fieldAt ((record 4).set 32 122) 8 1 = 1 ∧ fieldAt ((record 4).set 32 122) 12 2 = 4 ∧
    fieldAt ((record 4).set 32 122) 32 1 ≤ 122 ∧ fieldAt ((record 4).set 32 122) 33 1 ≤ 1 := by decide

/-- One report waiting for its slot. -/
def reportRead : State := { up with ml := { up.ml with
  slots := [⟨.reportHead, 65664, 8, lk⟩], queue := [⟨3, 1, 0, 0, 0, 9⟩] } }

theorem witness_HeadLinkServesReports :
    reportRead.ml.part = .running ∧ reportRead.ml.slots = [⟨.reportHead, 65664, 8, lk⟩] ∧
    reportRead.ml.queue = [⟨3, 1, 0, 0, 0, 9⟩] ∧ 3 < 4 ∧ tget reportRead.ml.lost 3 0 < 2 ^ 32 - 1 ∧
    isEnd (linkAt (toLe 8 255) 0) = true ∧ isEnd (linkAt (toLe 8 0) 0) = false ∧
    reportRead.ml.freeHead = some ⟨0, 128⟩ ∧ reportRead.ml.anchor = some ⟨0, 256⟩ ∧
    reportRead.ml.setup = some upSetup ∧ reportRead.ml.allows ⟨0, 128⟩ 32 true = true ∧
    reportRead.ml.allows ⟨0, 256⟩ 8 true = true := by decide

/-- The table read of a LOAD_WINDOWS in flight. -/
def loading : State := withFlight (returning .waiting (.loadWindows lk 1) 16) [⟨lk, 36, .loadWindows, false⟩]

theorem witness_WindowsAreJudgedAndReplaced :
    let m : Ml := { loading.ml with
      slots := [], inflight := [], windows := Vector.ofFn fun w => windowAt oneWindow 1 w.val }
    loading.ml.part = .running ∧ loading.ml.slots = [⟨.loadWindows lk 1, 65536, 16 * 1, lk⟩] ∧
    loading.ml.inflight = [⟨lk, 36, .loadWindows, false⟩] ∧ loading.ml.reader ≠ .blocked ∧
    m.allows (linkPlus lk 9) 15 true = true ∧ m.allows (linkPlus lk 8) 1 true = true ∧ loading.Reports 1 ∧
    loading.ml.allows (linkPlus lk 9) 15 true = true ∧ loading.ml.allows (linkPlus lk 8) 1 true = true ∧
    (windowAt oneWindow 1 0).valid = true ∧ m.allows ⟨0, 0xFFFFFF⟩ 1 true = true ∧
    m.allows ⟨0, 0xFFFFFF⟩ 2 true = false :=
  ⟨rfl, rfl, rfl, by decide, by decide, by decide, reports_one rfl rfl rfl, by decide, by decide, by decide, by decide,
    by decide⟩

/-- Voice 64 with a fetch of four frames outstanding, changed by `f`. -/
def fetching (f : Voice → Voice) : State := (returning .waiting (.fetch 64) 16).setVoice 64 (f { Voice.reset with
  st := .priming, owner := .host, desc := some ⟨0, 0, 8, 0, 0, .once⟩, start := .whenPrimed
  fpos := ⟨false, 4, some 0, 4, false⟩, fetch := some ⟨0, false, 0, 4, false⟩ })

theorem witness_FetchedBlockIsPlaced :
    let a := fetching id
    let b := fetching fun x => { x with st := .playing, pos := ⟨false, 4, some 0, 4, false⟩ }
    let c := fetching fun x => { x with st := .draining }
    (a.ml.part = .running ∧ a.notices = [] ∧ a.ml.slots = [⟨.fetch 64, 65536, 4 * 4, lk⟩] ∧
      (a.voice 64).fetch = some ⟨0, false, 0, 4, false⟩ ∧ (a.voice 64).st = .priming ∧ (a.voice 64).owner = .host ∧
      (a.voice 64).start = .whenPrimed ∧ (a.voice 64).fpos.done = false ∧ (a.voice 64).pos.idx < 0 + 4) ∧
    ((b.voice 64).st = .playing ∧ 0 + 4 ≤ (b.voice 64).pos.idx) ∧
    (c.voice 64).st = .draining ∧ c.Loose 64 ∧ c.Reports 1 :=
  ⟨⟨rfl, rfl, rfl, rfl, rfl, rfl, rfl, rfl, by decide⟩, ⟨rfl, by decide⟩, rfl,
    ⟨rfl, rfl, fun _ h => (by cases h), by decide⟩, reports_one rfl rfl rfl⟩

/-- An arming of the sequence at a step, its read outstanding and its record in flight. -/
def arming (st : ArmStep) : State :=
  let s := withFlight (returning .waiting (.arming false true) 8) [⟨lk, 13, .seqArm, false⟩]
  { s with ce := { s.ce with book := some ⟨0, 0⟩, seq := .arming, seqArm := some ⟨Cue.start 4095, st⟩ } }

theorem witness_ArmingReadsAreJudged :
    let s := arming .index
    let t := arming (.header lk)
    (s.ml.part = .running ∧ s.notices = [] ∧ s.ml.slots = [⟨.arming false true, 65536, 8, lk⟩] ∧
      s.ce.seqArm = some ⟨Cue.start 4095, .index⟩ ∧ s.ce.seq = .arming ∧ s.ce.latched = none ∧
      Cue.start 4095 = Cue.start (Cue.start 4095).index ∧ isEnd (linkAt (toLe 8 0) 0) = false ∧
      isEnd (linkAt (toLe 8 255) 0) = true ∧ s.Reports 1 ∧ s.ml.inflight = [⟨lk, 13, .seqArm, false⟩] ∧
      s.ml.reader ≠ .blocked ∧ s.ml.allows (linkPlus lk 9) 15 true = true ∧
      s.ml.allows (linkPlus lk 8) 1 true = true) ∧
    (t.ce.seqArm = some ⟨Cue.start 4095, .header lk⟩ ∧ 32 < fieldAt (toLe 12 0 ++ [33] ++ toLe 83 0) 12 1) ∧
    (returning .waiting (.arming false false) 8).ml.slots = [⟨.arming false false, 65536, 8, lk⟩] :=
  ⟨⟨rfl, rfl, rfl, rfl, rfl, rfl, rfl, by decide, by decide, reports_one rfl rfl rfl, rfl, by decide, by decide,
    by decide⟩,
    ⟨rfl, by decide⟩, rfl⟩

def recalling : State :=
  let s := withFlight (returning .waiting (.scene 9) 8) [⟨lk, 21, .scene 9, true⟩]
  { s with fb := { s.fb with recallCounter := 9, recalls := [theRecall] } }

theorem witness_SceneReadsAreJudged :
    recalling.ml.part = .running ∧ recalling.notices = [] ∧ recalling.ml.slots = [⟨.scene theRecall.number, 65536, 8,
      lk⟩] ∧
    recalling.fb.recalls = [theRecall] ∧ theRecall.step = .header ∧ theRecall.pos = 0 ∧ theRecall.mixes = [] ∧
    recalling.ml.inflight = [⟨lk, 21, .scene theRecall.number, theRecall.clamped⟩] ∧ recalling.ml.reader ≠ .blocked ∧
    recalling.ml.allows (linkPlus lk 9) 15 true = true ∧ recalling.ml.allows (linkPlus lk 8) 1 true = true ∧
    fieldAt (toLe 8 3) 4 1 = 0 ∧ 16 < fieldAt (toLe 4 3 ++ toLe 4 17) 4 1 ∧ recalling.Reports 1 ∧
    0 < fieldAt (toLe 4 3 ++ toLe 4 1) 4 1 ∧ fieldAt (toLe 4 3 ++ toLe 4 16) 4 1 ≤ 16 :=
  ⟨rfl, rfl, rfl, rfl, rfl, rfl, rfl, rfl, by decide, by decide, by decide, by decide, by decide,
    reports_one rfl rfl rfl, by decide, by decide⟩

/-! ### Witnesses: level and mix commands -/

/-- A host fade on channel 122, which stands at −64. -/
def channelFade : State := { up with lv := { up.lv with
  channel := up.lv.channel.setIfInBounds 122 (-64)
  fades := [⟨.channel 122, .host, off, 0, 12, 3, .linear, false, false⟩] } }

theorem witness_SetLevelSetsAChannel :
    channelFade.Ready lk ∧ 122 ≤ 122 ∧ (∀ f ∈ channelFade.lv.fades, f.target = .channel 122 → f.owner = .host) ∧
    (-1024 : Int) ≤ -1024 ∧ (128 : Int) ≤ 128 ∧ (128 : Int) < 129 ∧ -1024 ≤ channelFade.levelOf (.channel 122) + -960 ∧
    channelFade.levelOf (.channel 122) + 192 ≤ 128 ∧ channelFade.levelOf (.channel 122) + -961 < -1024 ∧
    1 < 2 ∧ 3 < 4 ∧ 122 < 123 ∧ 24 < 25 :=
  ⟨ready_of rfl rfl, by decide, by decide, by decide, by decide, by decide, by decide +kernel, by decide +kernel,
    by decide +kernel, by decide, by decide, by decide, by decide⟩

theorem witness_FadeEntersTheTable :
    up.Ready lk ∧ 24 ≤ 24 ∧ (-1024 : Int) ≤ 128 ∧ up.fadeOn (.master 24) = none ∧ up.lv.fades.length < 1024 ∧
    1 ≤ 3600000 ∧ 3600000 ≤ 3600000 ∧ 2 ≤ 2 ∧ 2 < 3 :=
  ⟨ready_of rfl rfl, by decide, by decide, by decide, by decide, by decide, by decide, by decide, by decide⟩

def zoneFade : State := { up with lv := { up.lv with
  fades := [⟨.zoneLevel 32, .host, off, 0, 12, 3, .linear, false, true⟩] } }

theorem witness_StopFadeLeavesTheLevel :
    up.Ready lk ∧ up.fadeOn (.zoneLevel 32) = none ∧ zoneFade.Ready lk ∧
    zoneFade.fadeOn (.zoneLevel 32) = some ⟨.zoneLevel 32, .host, off, 0, 12, 3, .linear, false, true⟩ ∧ 4 ≤ 4 :=
  ⟨ready_of rfl rfl, by decide, ready_of rfl rfl, by decide, by decide⟩

theorem witness_SetSourceAndSetBus : up.Ready lk ∧ 122 ≤ 122 ∧ 1 ≤ 1 ∧ 122 < 123 ∧ 1 < 2 ∧ 24 ≤ 24 ∧
    (some 2 = none ∨ some 2 = some 0 ∨ some 2 = some 1 ∨ some 2 = some 2) ∧ 24 < 25 ∧ ∃ x, some 3 = some x ∧ 2 < x :=
  ⟨ready_of rfl rfl, by decide, by decide, by decide, by decide, by decide, by decide, by decide, 3, rfl, by decide⟩

/-- Bus `b` with a contribution of source 121, or full. -/
def listed (b n : Nat) : State := up.setBus b { Bus.reset with
  list := (List.range n).map fun c => ⟨c, 0, false, false, ⟨5, 6⟩⟩ }

theorem witness_SetContribInserts :
    up.Ready lk ∧ 2 ≤ 2 ∧ up.contrib 23 121 = none ∧ up.contrib 7 122 = none ∧ (up.bus 23).list.length < 64 ∧
    (up.bus 7).list.length < 64 ∧ (listed 23 64).Ready lk ∧ (listed 23 64).contrib 23 121 = none ∧
    64 ≤ ((listed 23 64).bus 23).list.length ∧ up.contrib 25 0 = none ∧ up.contrib 24 136 = none ∧ 135 < 136 ∧
    (([⟨3, 0, false, false, ⟨0, 0⟩⟩] : List Contrib).map (·.source)).Pairwise (· < ·) :=
  ⟨ready_of rfl rfl, by decide, by decide, by decide, by decide, by decide, ready_of rfl rfl, by decide +kernel,
    by decide +kernel, by decide, by decide, by decide, by decide⟩

theorem witness_RemoveContribDeletesOrLeaves :
    (listed 23 3).Ready lk ∧ 23 ≤ 23 ∧ (listed 23 3).fadeOn (.crosspoint 23 2) = none ∧
    (listed 23 3).contrib 23 2 = some ⟨2, 0, false, false, ⟨5, 6⟩⟩ ∧ (listed 23 3).lv.fades.length < 1024 ∧
    (listed 23 3).fadeOn (.crosspoint 23 121) = none ∧ (listed 23 3).contrib 23 121 = none :=
  ⟨ready_of rfl rfl, by decide, by decide, by decide, by decide, by decide, by decide⟩

/-! ### Witnesses: voice and cue commands -/

theorem witness_StartVoicePrimes :
    up.Ready lk ∧ 64 ≤ 64 ∧ 600000 < 600001 ∧ ({ noDesc with win := 15 } : DescField).frames ≠ 0 ∧ 15 ≤ 15 ∧
      noDesc.mode = 0 ∧
    600000 ≤ 600000 ∧ inSet up.vu.reserve 64 = false ∧ up.vu.table = [] ∧ (up.voice 64).st = .free ∧
    ({ up with vu := { up.vu with table := [64] } } : State).Ready lk ∧ 64 ∈ [64] ∧ 2 < 3 ∧
    ({ up with vu := { up.vu with reserve := BitVec.twoPow 64 63 } } : State).Ready lk ∧
    inSet (BitVec.twoPow 64 63) 64 = true ∧ 64 ∉ [63] ∧ (heard 64).Ready lk ∧ (heard 64).vu.table = [] ∧
    inSet (heard 64).vu.reserve 64 = false ∧ ((heard 64).voice 64).st = .playing :=
  ⟨ready_of rfl rfl, by decide, by decide, by decide, by decide, rfl, by decide, by decide, rfl, by decide +kernel,
    ready_of rfl rfl, by decide, by decide, ready_of rfl rfl, by decide, by decide, ready_of rfl rfl, rfl, by decide,
    by decide +kernel⟩

theorem witness_StopAndTeardownVoice :
    let tail := ending fun x => { x with st := .tailing, stop := .after, tail := 5 }
    let cut := ending fun x => { x with stop := .cut }
    let paged := ending fun x => { x with owner := .page 7 }
    let wait := ending fun x => { x with fetch := some ⟨0, false, 0, 4, false⟩ }
    ((heard 1).Ready lk ∧ ((heard 1).voice 1).owner = .host ∧ ((heard 1).voice 1).st = .playing ∧
      ((heard 1).voice 1).stop ≠ .cut ∧ ((heard 1).voice 1).fetch = none ∧ (heard 1).Loose 1 ∧
      (heard 1).Reports 1 ∧ (heard 1).ml.reader ≠ .blocked) ∧
    (tail.Ready lk ∧ (tail.voice 1).st = .tailing ∧ (tail.voice 1).stop ≠ .cut ∧ 1 ≤ 1) ∧
    (cut.Ready lk ∧ (cut.voice 1).st = .playing ∧ (cut.voice 1).stop = .cut ∧ 2 ≤ 2) ∧
    (paged.Ready lk ∧ (paged.voice 1).owner = .page 7) ∧
    (wait.Ready lk ∧ wait.Loose 1 ∧ (wait.voice 1).fetch = some ⟨0, false, 0, 4, false⟩) ∧
    up.Ready lk ∧ (up.voice 64).st = .free ∧ (up.voice 64).owner = .none :=
  ⟨⟨ready_of rfl rfl, rfl, rfl, by decide, rfl, ending_loose id rfl rfl, reports_one rfl rfl rfl, by decide⟩,
    ⟨ready_of rfl rfl, rfl, by decide, by decide⟩, ⟨ready_of rfl rfl, rfl, rfl, by decide⟩,
    ⟨ready_of rfl rfl, rfl⟩, ⟨ready_of rfl rfl, ending_loose _ rfl rfl, rfl⟩, ready_of rfl rfl,
      by rw [up_voice]; rfl, by rw [up_voice]; rfl⟩

theorem witness_ReserveAndScheduleReplace :
    (heard 64).Ready lk ∧ (∀ p ∈ (heard 64).rc.pages, p.st ≠ .waiting) ∧
    (∀ v, 1 ≤ v → v ≤ 64 → inSet (0 : BitVec 64) v ≠ inSet (heard 64).vu.reserve v → ((heard 64).voice v).st = .free) ∧
    (∃ v, 1 ≤ v ∧ v ≤ 64 ∧ inSet (BitVec.twoPow 64 63) v ≠ inSet (heard 64).vu.reserve v ∧
      ((heard 64).voice v).st ≠ .free) ∧
    64 < 65 ∧ (∃ v ∈ [65], v = 0 ∨ 64 < v) ∧ 64 ≤ 64 ∧ (∀ v ∈ [63, 63], 1 ≤ v ∧ v ≤ 64) ∧
    (∃ v, 1 ≤ v ∧ v ≤ 64 ∧ ((heard 64).voice v).st ≠ .free ∧ v ∉ [63, 63]) :=
  ⟨ready_of rfl rfl, by decide, fun _ _ _ h => absurd rfl h, ⟨64, by decide⟩, by decide, by decide, by decide,
    by decide, ⟨64, by decide⟩⟩

/-- A sequence with a book, at a state. -/
def booked (q : SeqState) (f : FireState) : State :=
  { up with ce := { up.ce with book := some ⟨0, 0⟩, seq := q, fire := f } }

theorem witness_ArmingCommandsBegin :
    up.Ready lk ∧ 4095 < 4096 ∧ 4095 ≤ 4095 ∧ (⟨15, 0⟩ : Link).win ≤ 15 ∧ up.ce.seq = .empty ∧ up.ce.seqArm = none ∧
    up.ce.armed = none ∧ up.ce.latched = none ∧ up.ce.fire = .idle ∧ up.ml.slots = [] ∧
    (∀ e ∈ up.ml.inflight, e.job ≠ .seqArm) ∧ (booked .ended .idle).Ready lk ∧ (booked .ended .idle).ce.seq = .ended ∧
    up.ce.book = none ∧ (booked .ended .idle).ce.book = some ⟨0, 0⟩ ∧ (booked .ended .arming).ce.fire ≠ .idle ∧
    (booked .ended .idle).ce.fire = .idle :=
  ⟨ready_of rfl rfl, by decide, by decide, by decide, rfl, rfl, rfl, rfl, rfl, rfl, by decide, ready_of rfl rfl, rfl,
    rfl,
    rfl, by decide, rfl⟩

theorem witness_GoActsByState :
    standby.Ready lk ∧ standby.LastCue lastCue ∧ standby.Reports 2 ∧
    (booked .arming .idle).frozen = false ∧ (booked .arming .idle).ce.seq = .arming ∧
    (booked .arming .idle).ce.latched = none ∧ (booked .ended .idle).ce.armed = none ∧
    ({ up with ce := { up.ce with hold := true } } : State).frozen = true ∧
    ({ booked .arming .idle with ce := { (booked .arming .idle).ce with latched := some .command } } :
      State).ce.latched.isSome ∧
    (booked .faulted .idle).ce.seq = .faulted ∧ up.ce.seq = .empty :=
  ⟨ready_of rfl rfl, standby_last, reports_of rfl, rfl, rfl, rfl, rfl, rfl, rfl, rfl, rfl⟩

/-- STANDBY on a cue that starts voice 64, which is primed. -/
def standbyVoice : State :=
  let s := standby.setVoice 64 { Voice.reset with st := .primed, owner := .await false }
  { s with ce := { s.ce with armed := some firedCue } }

/-- Eight runs, 1 to 8. -/
def eightRuns : List Run := (oneTo 8).map fun n => ⟨n, 0, 0, 0⟩

/-- STANDBY with eight runs in the list. -/
def standbyFull : State := { standby with ce := { standby.ce with runs := eightRuns, runCounter := 8 } }

theorem witness_GoActsByState_triggers :
    (standbyNext.Ready lk ∧ standbyNext.NextCue nextCue 16 1 1 1 0 4095 ∧ standbyNext.Reports 1) ∧
    (standbyVoice.Ready lk ∧ standbyVoice.Stands firedCue ∧ standbyVoice.Reports 2 ∧
      firedCue.actions = [⟨0, .startVoice 64 noDesc⟩] ∧ firedCue.primes = [⟨0, 64, .primed⟩] ∧ firedCue.next = none ∧
      (standbyVoice.voice 64).st = .primed ∧ (standbyVoice.voice 64).owner = .await false) ∧
    (standbyFull.Ready lk ∧ standbyFull.ce.runs = ⟨1, 0, 0, 0⟩ :: eightRuns.tail ∧ eightRuns.tail.length = 7 ∧
      (∀ y ∈ eightRuns.tail, y.number ≠ 1) ∧ (∀ q ∈ standbyFull.ce.queue, q.run ≠ 1) ∧ standbyFull.ce.pred = none ∧
      ({ standbyFull with ce := { standbyFull.ce with runs := eightRuns.tail } } : State).LastCue lastCue ∧
      standbyFull.Reports 3) :=
  ⟨⟨ready_of rfl rfl, standby_next, reports_one rfl rfl rfl⟩,
    ⟨ready_of rfl rfl, ⟨rfl, rfl, rfl, by decide, by decide, by decide, by decide⟩, reports_of rfl, rfl, rfl, rfl,
      rfl, rfl⟩,
    ⟨ready_of rfl rfl, rfl, rfl, by decide, by decide, rfl,
      ⟨⟨rfl, rfl, rfl, by decide, by decide, by decide, by decide⟩, rfl, rfl, rfl⟩,
      reports_any rfl rfl rfl (by decide)⟩⟩

/-- HOLD in force, a run's fade and action under way. -/
def held (on : Bool) : State := { dueOutput 1 1 on with
  lv := { up.lv with fades := [⟨.channel 3, .cue 7, 0, -64, 12, 2, .linear, false, on⟩,
    ⟨.channel 4, .host, 0, -64, 12, 2, .linear, false, false⟩] } }

theorem witness_HoldFreezesReleaseThaws :
    (held false).Ready lk ∧ (held false).ce.latched = none ∧ (held false).frozen = false ∧ (held true).Ready lk ∧
    (held true).ce.latched = none ∧ (held true).ce.hold = true ∧ (held true).interlocked = false ∧
    (held true).ce.follow ≠ .expired ∧ (held true).ce.fire ≠ .waiting ∧ (held false).ce.hold = false ∧
    (∃ s : State, s.Ready lk ∧ s.frozen = false ∧ s.ce.latched = some .command ∧ s.ce.armed = none ∧ s.Reports 1) :=
  ⟨ready_of rfl rfl, rfl, rfl, ready_of rfl rfl, rfl, rfl, rfl, by decide, by decide, rfl,
    { booked .arming .idle with ce := { (booked .arming .idle).ce with latched := some .command } },
    ready_of rfl rfl, rfl, rfl, rfl, reports_one rfl rfl rfl⟩

theorem witness_StopCuesEmptiesTheEngine :
    (held false).Ready lk ∧ (held false).ce.fire = .idle ∧ (∀ q ∈ (held false).ce.queue, isStartVoice q.body = false) ∧
    (∀ v, 1 ≤ v → v ≤ 64 → isRunOwner ((held false).voice v).owner = false) ∧
    ((held false).lv.fades.map (·.target)).Nodup ∧
    ∀ f ∈ (held false).lv.fades, isCueOwner f.owner = true → f.remove = false :=
  ⟨ready_of rfl rfl, rfl, by decide, fun v _ _ => by
    have e : (held false).voice v = Voice.reset := tget_replicate _ _ _
    rw [e]; rfl, by decide, by decide⟩

/-! ### Witnesses: foldback, relay and interlock commands -/

/-- Fields of SET_FOLDBACK at the ends of their ranges, and beyond. -/
def mixFields (h : Nat) : FoldbackField := ⟨some h, some 1, some 0, some 65, some (-32768), some h, some 129⟩

theorem witness_SetFoldbackWritesTheMix :
    up.Ready lk ∧ 16 ≤ 16 ∧ up.fb.talk = false ∧ (up.mix 16).talking = false ∧
    (∀ h, (mixFields 1).hold = some h → h ≤ 1) ∧ (∀ h, (mixFields 1).member = some h → h ≤ 1) ∧ 16 < 17 ∧
    (∃ h, (mixFields 2).hold = some h ∧ 1 < h) ∧ ∃ h, (mixFields 2).member = some h ∧ 1 < h :=
  ⟨ready_of rfl rfl, by decide, rfl, by rw [up_mix]; rfl, fun h e => by cases e; decide,
    fun h e => by cases e; decide, by decide, ⟨2, rfl, by decide⟩, 2, rfl, by decide⟩

/-- Mix 16 in the talk set, talking or not. -/
def talkSet (on : Bool) : State :=
  let s := up.setMix 16 { Mix.reset with inSet := true, talking := on, gate := on }
  { s with fb := { s.fb with talkCmd := on } }

theorem witness_TalkOpensAndShutsTheGate (on : Bool) :
    (talkSet on).Ready lk ∧ (talkSet on).fb.talkFn = false ∧
    (∀ k, 1 ≤ k → k ≤ 16 → (((talkSet on).mix k).inSet = true ↔ k = 16)) ∧
    (∀ k, 1 ≤ k → k ≤ 16 → k ≠ 16 → ((talkSet on).mix k).talking = false) ∧
    (talkSet on).fadeOn (.dim 16) = none ∧ (talkSet on).lv.fades.length < 1024 ∧
    (talkSet on).fb.talkCmd = on ∧ ((talkSet on).mix 16).talking = on := by
  have h : ∀ k, 1 ≤ k → k ≠ 16 → (talkSet on).mix k = Mix.reset := fun k h1 h =>
    (State.mix_setMix_other up _ (by decide) h1 (Ne.symm h)).trans (up_mix k)
  have e : (talkSet on).mix 16 = { Mix.reset with inSet := true, talking := on, gate := on } :=
    State.mix_setMix up _ (by decide) (by decide)
  refine ⟨ready_of rfl rfl, rfl, fun k h1 h2 => ?_, fun k h1 _ hk => by rw [h k h1 hk]; rfl, rfl,
    by cases on <;> decide, rfl, by rw [e]⟩
  by_cases hk : k = 16
  · subst hk; rw [e]; simp
  · rw [h k h1 hk]; simp [hk, Mix.reset]

theorem witness_RecallSceneJoinsTheList :
    up.Ready lk ∧ 3600000 ≤ 3600000 ∧ (⟨15, 0⟩ : Link).win ≤ 15 ∧ up.fb.recalls.length < 16 ∧
    16 ≤ ({ up with fb := { up.fb with recalls := List.replicate 16 theRecall } } : State).fb.recalls.length ∧
    15 < (⟨16, 0⟩ : Link).win ∧ 2 < 3 :=
  ⟨ready_of rfl rfl, by decide, by decide, by decide, by decide, by decide, by decide⟩

/-- Fields of SET_ZONE at the ends of their ranges, and beyond. -/
def zoneFields (p : Nat) (g : Option (BitVec 8)) : ZoneField := ⟨some p, some 1, some 60001, some 60001, g, some 129⟩

theorem witness_SetZoneAndSetPageButton :
    up.Ready lk ∧ 32 ≤ 32 ∧ (up.zone 32).holder = none ∧ (∀ p, (zoneFields 1 none).programme = some p → p ≤ 1) ∧
    (zoneFields 1 none).groups.getD (up.zone 32).groups = (up.zone 32).groups ∧
    (zoneFields 1 (some 0x80)).groups.getD (up.zone 32).groups ≠ (up.zone 32).groups ∧ 32 < 33 ∧
    (∃ p, (zoneFields 2 none).programme = some p ∧ 1 < p) ∧
    8 ≤ 8 ∧ 3 ≤ 3 ∧ 1 ≤ 1 ∧ 8 < 9 ∧ 1 < 2 ∧ 3 < 4 ∧ 2 < 3 :=
  ⟨ready_of rfl rfl, by decide, by rw [up_zone]; rfl, fun p e => by cases e; decide, rfl, by rw [up_zone]; decide,
    by decide, ⟨2, rfl, by decide⟩, by decide, by decide, by decide, by decide, by decide, by decide, by decide⟩

/-- A LIVE page for zone 32. -/
def livePage (prio : Nat) : PageField := ⟨0xFEFF, prio, 0, BitVec.twoPow 32 31, 0, 0, 1, 0, 600000, 600, noDesc, noDesc⟩

/-- Zone 32 without programme, and the interlock in a state. -/
def quietZone (i : IlState) : State :=
  { up.setZone 32 { Zone.reset with programme := false } with il := { up.il with st := i } }

theorem witness_StartPageGrantsALivePage :
    (quietZone .clear).Ready lk ∧ (livePage 3).priority ≤ 3 ∧ (livePage 3).mode = 0 ∧ (livePage 3).source = 0 ∧
    (livePage 3).mic = 1 ∧ (livePage 3).chime = 0 ∧ (livePage 3).id < 0xFF00 ∧
    (livePage 3).zones = BitVec.twoPow 32 (32 - 1) ∧ (livePage 3).groups = 0 ∧ (livePage 3).waitLimit ≤ 600000 ∧
    1 ≤ (livePage 3).liveLimit ∧ (livePage 3).liveLimit ≤ 600 ∧ (quietZone .clear).rc.pages = [] ∧
    (quietZone .clear).interlocked = false ∧ (∀ y, 1 ≤ y → y ≤ 32 → ((quietZone .clear).zone y).holder = none) ∧
    ((quietZone .clear).zone 32).programme = false ∧ ((quietZone .clear).zone 32).duckFade ≠ .attack ∧
    (quietZone .clear).micFree 1 = true ∧ (quietZone .clear).Reports 2 ∧
    (∃ q, ({ up with rc := { up.rc with pages := [{ airPage with id := 0xFEFF }] } } : State).page (livePage 3).id =
      some q) ∧
    (quietZone .latched).interlocked = true ∧ (livePage 2).priority < 3 := by
  refine ⟨ready_of rfl rfl, by decide, rfl, rfl, rfl, rfl, by decide, rfl, rfl, by decide, by decide, by decide, rfl,
    rfl,
    fun y h1 _ => ?_, by decide, by decide, by decide, reports_of rfl, ⟨_, rfl⟩, rfl, by decide⟩
  by_cases h : y = 32
  · subst h; rfl
  · have e : (quietZone .clear).zone y = up.zone y := State.zone_setZone_other up _ (by decide) h1 (Ne.symm h)
    rw [e, up_zone]; rfl

theorem witness_StartPageGrantsALivePage_ducks :
    up.fadeOn (.duck 32) = none ∧ (up.zone 32).duckFade ≠ .attack ∧ (up.zone 32).programme = true ∧
    up.levelOf (.duck 32) ≠ (up.zone 32).depth ∧ (up.zone 32).attack ≠ 0 ∧ up.lv.fades.length < 1024 ∧
    ((up.setZone 32 { Zone.reset with attack := 0 }).zone 32).attack = 0 ∧
    (up.setZone 32 { Zone.reset with depth := 0 }).levelOf (.duck 32) =
      ((up.setZone 32 { Zone.reset with depth := 0 }).zone 32).depth := by decide +kernel

theorem witness_EndAndCancelPage :
    (waiting true).Ready lk ∧ (waiting true).page 7 = some (waitingPage true) ∧ (waitingPage true).st = .waiting ∧
    (waitingPage true).live = true ∧ (waiting true).Reports 1 ∧ (waiting false).page 7 = some (waitingPage false) ∧
    (waitingPage false).live = false ∧ up.page 7 = none :=
  ⟨ready_of rfl rfl, rfl, rfl, rfl, reports_one rfl rfl rfl, rfl, rfl, rfl⟩

/-- The interlock in a state. -/
def interlockIn (i : IlState) : State := { up with il := { up.il with st := i } }

theorem witness_ResumeActsByState :
    (interlockIn .resuming).Ready lk ∧ 60000 ≤ 60000 ∧ (interlockIn .resuming).il.st = .resuming ∧ up.il.st = .clear ∧
    60000 < 60001 ∧ (interlockIn .active).il.st = .active ∧ (interlockIn .latched).Ready lk ∧
    (interlockIn .latched).il.st = .latched ∧ (interlockIn .latched).Reports 1 ∧
    (∀ f ∈ (interlockIn .latched).lv.fades, f.target ∉ interlockTargets) ∧
    (interlockIn .latched).ce.follow ≠ .expired ∧ (interlockIn .latched).ce.fire ≠ .waiting ∧
    (interlockIn .latched).cu.routes = [] :=
  ⟨ready_of rfl rfl, by decide, rfl, rfl, by decide, rfl, ready_of rfl rfl, rfl, reports_one rfl rfl rfl,
    fun _ h => (by cases h), by decide, by decide, rfl⟩

/-! ### Witnesses: contacts, clock and link commands; arithmetic and headlines -/

/-- Input 24, open or closed, about to change, with function `fn` routed to it, on a state without other inputs. -/
def contact (s : State) (fn : Func) (closed : Bool) : State :=
  let s := s.setInput 24 { Input.reset with closed := closed, count := 480, due := true }
  { s with cu := { s.cu with routes := [⟨fn, 24, .closed, closed⟩] } }

theorem contact_last {s : State} {c : Cue} (h : s.LastCue c) (fn : Func) (b : Bool) : (contact s fn b).LastCue c :=
  ⟨⟨h.standby, h.armed, h.free, h.room, h.fresh, h.noAction, h.noFade⟩, h.empty, h.noPrimes, h.last⟩

theorem contact_routed {s : State} (fn : Func) (b : Bool) :
    ((contact s fn b).input 24).due = true ∧ ((contact s fn b).input 24).closed = b ∧
    (contact s fn b).cu.routes = [⟨fn, 24, .closed, b⟩] := by
  have e : (contact s fn b).input 24 = { Input.reset with closed := b, count := 480, due := true } :=
    State.input_setInput s _ (by decide) (by decide)
  exact ⟨by rw [e], by rw [e], rfl⟩

theorem witness_InputChangeFlips_edges :
    (contact standby .go false).cu.mode = .off ∧ (contact standby .go false).LastCue lastCue ∧
    (contact standby .go false).Reports 2 ∧ (contact (booked .arming .idle) .go false).frozen = false ∧
    (contact (booked .arming .idle) .go false).ce.seq = .arming ∧
    (contact (booked .arming .idle) .go false).ce.latched = none ∧
    (contact standby (.trig 8) false).LastCue lastCue ∧ funcOf 20 = some (.trig 8) ∧ isEdge (.trig 8) = true ∧
    (contact up .mark false).Reports 1 :=
  ⟨rfl, contact_last standby_last _ _, reports_any rfl rfl rfl (by decide), rfl, rfl, rfl,
    contact_last standby_last _ _, rfl, rfl, reports_one rfl rfl rfl⟩

theorem witness_InputChangeFlips_levels :
    (∀ m, 1 ≤ m → m ≤ 16 → ((contact up .talk true).mix m).inSet = false ∧
      ((contact up .talk true).mix m).talking = false) ∧
    (contact up .hold false).frozen = false ∧ (contact up .hold false).ce.latched = none ∧
    (contact (held true) .hold true).ce.hold = true ∧ (contact (held true) .hold true).interlocked = false ∧
    (contact (held true) .hold true).ce.follow ≠ .expired ∧ (contact (held true) .hold true).ce.fire ≠ .waiting ∧
    (contact channelFade .interlock false).il.st = .clear ∧
    (contact channelFade .interlock false).lv.fades.length + 56 ≤ 1024 ∧
    (∀ f ∈ (contact channelFade .interlock false).lv.fades, f.target ∉ interlockTargets) ∧
    (∀ p ∈ (contact channelFade .interlock false).rc.pages, 3 ≤ p.priority) ∧
    (contact channelFade .interlock false).Reports 1 ∧ (contact (interlockIn .active) .interlock true).il.st = .active ∧
    (contact (interlockIn .latched) .interlock false).il.st = .latched :=
  ⟨fun m _ _ => by
      have e : (contact up .talk true).mix m = Mix.reset := tget_replicate _ _ _
      rw [e]; exact ⟨rfl, rfl⟩,
    rfl, rfl, rfl, rfl, by decide, by decide, rfl, by decide, by decide +kernel, fun _ h => (by cases h),
    reports_one rfl rfl rfl, rfl, rfl⟩

/-- Zone 32 without programme and button 8 set to it. -/
def buttonSet : State :=
  let s := quietZone .clear
  { s with rc := { s.rc with buttons := s.rc.buttons.setIfInBounds 7 (some ⟨BitVec.twoPow 32 31, 0, 3, false, 1⟩) } }

theorem witness_InputChangeFlips_pages :
    let s := contact buttonSet (.page 8) false
    let w : State := { up with rc := { up.rc with pages := [{ waitingPage true with id := 0xFF08 }] } }
    tget (contact up (.page 8) false).rc.buttons 7 none = none ∧
    tget s.rc.buttons (8 - 1) none = some ⟨BitVec.twoPow 32 (32 - 1), 0, 3, false, 1⟩ ∧ s.rc.pages = [] ∧
    s.interlocked = false ∧ (∀ y, 1 ≤ y → y ≤ 32 → (s.zone y).holder = none) ∧ (s.zone 32).programme = false ∧
    (s.zone 32).duckFade ≠ .attack ∧ s.micFree 1 = true ∧ s.Reports 2 ∧
    (contact w (.page 8) true).page (0xFF00 + 8) = some { waitingPage true with id := 0xFF08 } ∧
    (waitingPage true).st = .waiting ∧ (contact w (.page 8) true).Reports 1 := by
  refine ⟨by decide, by decide, rfl, rfl, fun y h1 _ => ?_, by decide, by decide, by decide,
    reports_any rfl rfl rfl (by decide), rfl, rfl, reports_one rfl rfl rfl⟩
  by_cases h : y = 32
  · subst h; rfl
  · have e : (contact buttonSet (.page 8) false).zone y = up.zone y :=
      State.zone_setZone_other up _ (by decide) h1 (Ne.symm h)
    rw [e, up_zone]; rfl

/-- Input 16 about to close under a watcher. -/
def watched (s : State) (mode : PatternMode) (act : PatternAction) (mask : BitVec 16) : State :=
  let s := s.setInput 16 { Input.reset with count := 480, due := true }
  { s with cu := { s.cu with mode := mode, action := act, mask := mask, compare := 0x8000 } }

theorem witness_InputChangeFlips_watcher :
    let go := watched standby .event .go 0x8000
    let m := watched up .matching .report 0x8000
    ((watched up .event .report 0).cu.mode = .event ∧ inSet (watched up .event .report 0).cu.mask 16 = false ∧
      ((watched up .event .report 0).input 16).due = true ∧ 16 ≤ 16 ∧
      (∀ r ∈ (watched up .event .report 0).cu.routes, r.input ≠ 16)) ∧
    (inSet (watched up .event .report 0x8000).cu.mask 16 = true ∧ (watched up .event .report 0x8000).Reports 1) ∧
    (go.cu.action = .go ∧ go.LastCue lastCue ∧ go.Reports 3) ∧
    (m.cu.mode = .matching ∧ m.cu.equal = false ∧
      (m.setInput 16 { m.input 16 with closed := true }).pattern &&& m.cu.mask = m.cu.compare &&& m.cu.mask ∧
      m.Reports 1) ∧
    (m.setInput 16 (m.input 16)).pattern &&& m.cu.mask ≠ m.cu.compare &&& m.cu.mask :=
  ⟨⟨rfl, by decide, by decide, by decide, fun _ h => (by cases h)⟩, ⟨by decide, reports_one rfl rfl rfl⟩,
    ⟨rfl, ⟨⟨standby_stands.standby, standby_stands.armed, standby_stands.free, standby_stands.room,
      standby_stands.fresh, standby_stands.noAction, standby_stands.noFade⟩, rfl, rfl, rfl⟩,
      reports_any rfl rfl rfl (by decide)⟩,
    ⟨rfl, rfl, by decide +kernel, reports_one rfl rfl rfl⟩, by decide +kernel⟩

/-- The route table `l`. -/
def withRoutes (l : List Route) : State := { up with cu := { up.cu with routes := l } }

theorem witness_SetRouteWritesTheTable :
    up.Ready lk ∧ 24 ≤ 24 ∧ up.cu.routes = [] ∧ (withRoutes [⟨.mark, 24, .closed, true⟩]).Ready lk ∧
    (withRoutes [⟨.mark, 24, .closed, true⟩]).cu.routes = [⟨.mark, 24, .closed, true⟩] ∧
    (withRoutes [⟨.interlock, 24, .opened, false⟩]).cu.routes = [⟨.interlock, 24, .opened, false⟩] ∧
    (withRoutes [⟨.talk, 24, .closed, false⟩]).cu.routes = [⟨.talk, 24, .closed, false⟩] ∧
    20 < 21 ∧ 24 < 25 ∧ 2 < 3 :=
  ⟨ready_of rfl rfl, by decide, rfl, ready_of rfl rfl, rfl, rfl, rfl, by decide, by decide, by decide⟩

/-- ACTIVE by input 24; a report's slot known or not. -/
def interlockOut (n : NextLink) : State :=
  let s := withRoutes [⟨.interlock, 24, .closed, true⟩]
  { s with il := { s.il with st := .active }, ml := { s.ml with nextLink := n } }

theorem witness_SetRouteWritesTheTable_interlock :
    (interlockOut .unknown).Ready lk ∧ (interlockOut .unknown).Reports 1 ∧
    (interlockOut (.known ⟨0, 320⟩)).Ready lk ∧
    (interlockOut (.known ⟨0, 320⟩)).cu.routes = [⟨.interlock, 24, .closed, true⟩] ∧
    (interlockOut (.known ⟨0, 320⟩)).il.st = .active ∧ (interlockOut (.known ⟨0, 320⟩)).ml.queue = [] ∧
    (interlockOut (.known ⟨0, 320⟩)).ml.nextLink = .known ⟨0, 320⟩ ∧
    (interlockOut (.known ⟨0, 320⟩)).ml.freeHead = some ⟨0, 128⟩ ∧
    (interlockOut (.known ⟨0, 320⟩)).ml.anchor = some ⟨0, 256⟩ ∧
    (interlockOut (.known ⟨0, 320⟩)).ml.allows ⟨0, 128⟩ 32 true = true ∧
    (interlockOut (.known ⟨0, 320⟩)).ml.allows ⟨0, 256⟩ 8 true = true :=
  ⟨ready_of rfl rfl, reports_one rfl rfl rfl, ⟨rfl, rfl, by decide, by decide, by decide, by decide⟩, rfl, rfl, rfl,
    rfl,
    rfl, rfl, by decide, by decide⟩

theorem witness_ContactSettingsAreWritten :
    up.Ready lk ∧ 24 ≤ 24 ∧ 255 ≤ 255 ∧ 24 < 25 ∧ (∃ x, some 2 = some x ∧ 1 < x) ∧ 8 ≤ 8 ∧ 2 < 3 ∧ 8 < 9 ∧ 16 ≤ 16 ∧
    16 < 17 ∧ 7 < 8 :=
  ⟨ready_of rfl rfl, by decide, by decide, by decide, ⟨2, rfl, by decide⟩, by decide, by decide, by decide, by decide,
    by decide, by decide⟩

theorem witness_ClockLimitsSettleInOrder : up.Ready lk := ready_of rfl rfl

theorem witness_RelockAndSelectClock :
    (clocked .intFallback 0).Ready lk ∧ (clocked .intFallback 0).ck.st = .intFallback ∧
    (clocked .intSelected 0).ck.st = .intSelected ∧ (clocked .extWarn 0).Ready lk ∧
    (clocked .extWarn 0).ck.st = .extWarn ∧ (clocked .extWarn 0).ck.selected = true ∧
    (clocked .extWarn 0).ck.silentNext = none ∧ (clocked .extWarn 0).Reports 1 ∧ 1 < 2 :=
  ⟨ready_of rfl rfl, rfl, rfl, ready_of rfl rfl, rfl, rfl, rfl, reports_one rfl rfl rfl, by decide⟩

theorem witness_LinkCommands :
    up.Ready lk ∧ 16 ≤ 16 ∧ (0xFFFFFFFFFFFFFFF0#64).toNat % 16 = 0 ∧ (8#64).toNat % 16 ≠ 0 ∧ 16 < 17 ∧
    4 ≤ (4#8).toNat ∧ up.Reports 1 :=
  ⟨ready_of rfl rfl, by decide, by decide, by decide, by decide, by decide, reports_one rfl rfl rfl⟩

theorem witness_FadeLawsStayBetween : 0 < 1 ∧ 1 ≤ 1 := by decide

theorem witness_CeilingConvertsToThreshold : (-1024 : Int) < -1023 ∧ (0 : Int) ≤ 0 ∧ (0 : Int) < 1 := by decide

theorem witness_RecordRoundTrip :
    (Instr.goto lk 4095).wf = true ∧ recordLink (.goto lk 4095) = some lk ∧
    (encodeRecord (.goto lk 4095)).isSome = true := by decide

theorem up_within : up.WithinCapacity :=
  ⟨by decide, by decide, by decide, by decide, by decide, by decide, by decide, by decide, by decide⟩

theorem witness_StepsKeepCapacities : up.WithinCapacity ∧ step up = .next up := ⟨up_within, rfl⟩

theorem witness_CauseBitsStaySet :
    let s : State := { up with pending := [.writeBusError] }
    s.pending = .writeBusError :: [] ∧ clearsCause .writeBusError = false ∧ ∃ t, step s = .next t :=
  ⟨rfl, rfl, _, rfl⟩

end Sys2Proof.Tests
end

section
/-! PROOFS. What every command row comes to, and that no step exceeds a capacity. -/

namespace Sys2Proof.Machine

/-! ### Rows of chain commands -/

/-- The row of a chain command hands it on while the part takes commands (11, R192; log 2). -/
theorem exec_command {i : Instr} {r : Link} (h : recordLink i = some r) (s : State) :
    exec i s = .next (if s.takes then s.handed (State.runCommand i) else s).granted := by
  cases i <;> cases h <;> rfl

/-- Where the command can be taken, its row is the hand-over. -/
theorem State.Ready.exec_handed {s : State} {r : Link} (h : s.Ready r) {i : Instr}
    (hi : recordLink i = some r) :
    exec i s = .next (s.handed (State.runCommand i)).granted := by
  rw [exec_command hi, if_pos h.takes]

/-! ### What each row keeps -/

section
variable (s : State)

theorem State.command_holds (i : Instr) : Holds s (if s.takes then s.handed (State.runCommand i) else s) := by
  split
  · rename_i ht
    have room : s.ml.inflight.length + 1 ≤ 8 := by
      simp only [State.takes, Bool.and_eq_true] at ht
      exact of_decide_eq_true ht.2
    exact (s.handed_adds (s.runCommand_adds i)).holds (.inl rfl) (.inr room)
  · exact .refl s

/-- An event that is taken only under a condition. -/
theorem State.guarded_holds {b : Bool} {t : State} (h : Keeps s t) : Holds s (if b then t else s) := by
  split
  · exact h.keepsHolds
  · exact .refl s

/-- The same, with the notices of the event acted on. -/
theorem State.guardedSettle_holds {b : Bool} {t : State} (h : Keeps s t) :
    Holds s (if b then t.settle else s) := s.guarded_holds (h.then t.settle_keeps)

theorem State.settled_holds {t : State} (h : Holds s t) : Holds s t.settle := h.trans t.settle_keeps.keepsHolds

theorem State.dueActionRow_holds : Holds s
    (match s.dueAction with | some q => if s.running then (s.runDueAction q).settle else s | none => s) := by
  split
  · exact s.guardedSettle_holds (s.runDueAction_keeps _)
  · exact .refl s

/-- A read slot that returns to the report writer. -/
theorem State.headReturn_keeps (d : ReadData) : Keeps s { s with ml := s.ml.headReturn d } :=
  s.ml_keeps (Ml.headReturn_keeps _ _)

end

/-- A row that clears no CAUSE bit holds the capacities and the CAUSE bits: each row's own operation does, and
so do the grants at its end. -/
theorem exec_holds (i : Instr) (hc : clearsCause i = false) (s : State) :
    ∃ t : State, exec i s = .next t.granted ∧ Holds s t := by
  cases hr : recordLink i with
  | some r => exact ⟨_, exec_command hr s, s.command_holds i⟩
  | none =>
    cases i
    case runWritten1 => exact ⟨_, rfl, s.runOne_keeps.keepsHolds⟩
    case runWritten0 => exact ⟨_, rfl, s.runZero_keeps.keepsHolds⟩
    case wake => exact ⟨_, rfl, s.wake_keeps.keepsHolds⟩
    case maskWrite v => exact ⟨_, rfl, (s.ml_same (m := s.ml.setMask v) rfl rfl rfl rfl).keepsHolds⟩
    case rootBlockReadComplete d => exact ⟨_, rfl, (s.rootReturn_keeps d).keepsHolds⟩
    case windowTableReadComplete d p => exact ⟨_, rfl, (s.tableReturn_keeps d p).keepsHolds⟩
    case stoppingEnd => exact ⟨_, rfl, s.guarded_holds s.endStopping_keeps⟩
    case orphanReadReturn d => exact ⟨_, rfl, (s.dropRead_keeps _ d).keepsHolds⟩
    case readSlotGrant => exact ⟨_, rfl, s.settled_holds s.grantRead_holds⟩
    case samplePeriod p n => exact ⟨_, rfl, s.settled_holds (s.samplePeriod_holds p n)⟩
    case controlPeriod => exact ⟨_, rfl, s.guardedSettle_holds s.controlPeriod_keeps⟩
    case fadeComplete x => exact ⟨_, rfl, s.settled_holds (s.fadeEnd_keeps x).keepsHolds⟩
    case actionDue => exact ⟨_, rfl, s.dueActionRow_holds⟩
    case followExpired => exact ⟨_, rfl, s.guardedSettle_holds s.expireFollow_keeps⟩
    case voiceStart v => exact ⟨_, rfl, s.guardedSettle_holds (s.voiceStart_keeps v)⟩
    case tailEnd v => exact ⟨_, rfl, s.guarded_holds (s.tailEnd_keeps v)⟩
    case cutRampEnd v => exact ⟨_, rfl, s.guardedSettle_holds (s.cutRampEnd_keeps v)⟩
    case pauseRampEnd v => exact ⟨_, rfl, s.guardedSettle_holds (s.pauseRampEnd_keeps v)⟩
    case pathEnd v => exact ⟨_, rfl, s.guardedSettle_holds (s.pathEnd_keeps v)⟩
    case waitExpiry p => exact ⟨_, rfl, s.guardedSettle_holds (s.endPage_keeps p .expired .finished)⟩
    case lengthExpiry p => exact ⟨_, rfl, s.guardedSettle_holds (s.endPage_keeps p .timeout .finished)⟩
    case flashWindowEnd => exact ⟨_, rfl, s.guarded_holds s.flashEnd_keeps⟩
    case inputChange c w l => exact ⟨_, rfl, s.guardedSettle_holds (s.inputChange_keeps c w l)⟩
    case measurementWindowEnd => exact ⟨_, rfl, s.guardedSettle_holds s.windowEnd_keeps⟩
    case lossEvent => exact ⟨_, rfl, s.guardedSettle_holds s.lossEvent_keeps⟩
    case changeoverBoundary => exact ⟨_, rfl, s.guarded_holds s.takeBoundary_keeps⟩
    case pollTimerExpiry => exact ⟨_, rfl, s.guarded_holds s.pollExpiry_keeps⟩
    case statusPageWrite => exact ⟨_, rfl, s.guarded_holds s.statusPage_keeps⟩
    case fetchComplete v d => exact ⟨_, rfl, s.settled_holds (s.fetchReturn_keeps v d).keepsHolds⟩
    case armingReadComplete f d => exact ⟨_, rfl, s.settled_holds (s.armReturn_keeps f d).keepsHolds⟩
    case sceneReadComplete n d => exact ⟨_, rfl, s.settled_holds (s.sceneReturn_keeps n d).keepsHolds⟩
    case chainLinkReadComplete d => exact ⟨_, rfl, (s.chainLinkReturn_keeps d).keepsHolds⟩
    case chainRecordReadComplete d => exact ⟨_, rfl, s.chainRecordReturn_holds d⟩
    case reportLinkReadComplete d => exact ⟨_, rfl, (s.headReturn_keeps d).keepsHolds⟩
    case loadWindowsReadComplete d => exact ⟨_, rfl, (s.loadWindowsReturn_keeps d).keepsHolds⟩
    case wordClockEdge => exact ⟨_, rfl, s.guardedSettle_holds s.clockEdge_keeps⟩
    case writeBusError => exact ⟨_, rfl, (s.setCause_keeps _).keepsHolds⟩
    case powerOn => cases hc
    case registerWrite => cases hc
    case softReset => cases hc
    case causeClear => cases hc
    all_goals cases hr

/-! ### The rows that clear CAUSE bits -/

section
variable {s : State}

/-- Capacities see of the memory link only its reads, its queue and its commands in flight. -/
theorem State.WithinCapacity.ofMl {m : Ml} (w : s.WithinCapacity) (r : m.slots = s.ml.slots)
    (q : m.queue = s.ml.queue) (f : m.inflight = s.ml.inflight) :
    State.WithinCapacity { s with ml := m } :=
  { w with reads := r ▸ w.reads, reports := q ▸ w.reports, inflight := f ▸ w.inflight }

/-- After any reset every table is empty but the read slots that it keeps. -/
theorem State.resetBlocks_within {l : List Outstanding} (h : l.length ≤ 8) : (s.resetBlocks l).WithinCapacity :=
  ⟨h, Nat.zero_le _, Nat.zero_le _, Nat.zero_le _, Nat.zero_le _, Nat.zero_le _, Nat.zero_le _, Nat.zero_le _,
    Nat.zero_le _⟩

theorem State.powerOn_within : s.powerOn.WithinCapacity :=
  (s.resetBlocks_within (l := []) (Nat.zero_le _)).ofMl (m := s.powerOn.ml) rfl rfl rfl

theorem State.WithinCapacity.softReset (w : s.WithinCapacity) : s.softReset.WithinCapacity :=
  (State.resetBlocks_within (by simpa using w.reads)).ofMl (m := s.softReset.ml) rfl rfl rfl

theorem State.WithinCapacity.writeControl (w : s.WithinCapacity) (v : Word) :
    (s.writeControl v).WithinCapacity := by
  unfold State.writeControl
  split
  · exact w.softReset
  · split
    · exact s.runOne_keeps.keepsHolds.capacity w
    · exact s.runZero_keeps.keepsHolds.capacity w

theorem State.WithinCapacity.registerWrite (w : s.WithinCapacity) (o : Nat) (b : Bool) (v : Wide) :
    (s.registerWrite o b v).WithinCapacity := by
  unfold State.registerWrite
  simp only
  split
  · exact w.ofMl rfl rfl rfl
  · exact w.ofMl rfl rfl rfl
  · exact w.writeControl _
  · exact s.wake_keeps.keepsHolds.capacity w
  · exact w.ofMl rfl rfl rfl
  · exact w.ofMl rfl rfl rfl
  · exact w

end

theorem exec_clears_within {i : Instr} (hc : clearsCause i = true) {s : State} (w : s.WithinCapacity) :
    ∃ t : State, exec i s = .next t.granted ∧ t.WithinCapacity := by
  cases i
  case powerOn => exact ⟨_, rfl, State.powerOn_within⟩
  case registerWrite o b v =>
    exact ⟨_, rfl, (State.settle_keeps _).keepsHolds.capacity (w.registerWrite o b v)⟩
  case softReset => exact ⟨_, rfl, w.softReset⟩
  case causeClear b => exact ⟨_, rfl, w.ofMl rfl rfl rfl⟩
  all_goals cases hc

/-- Every row keeps the capacities. -/
theorem exec_within (i : Instr) {s : State} (w : s.WithinCapacity) :
    ∃ t : State, exec i s = .next t ∧ t.WithinCapacity := by
  cases hc : clearsCause i with
  | true =>
    obtain ⟨t, ht, k⟩ := exec_clears_within hc w
    exact ⟨_, ht, t.granted_holds.capacity k⟩
  | false =>
    obtain ⟨t, ht, k⟩ := exec_holds i hc s
    exact ⟨_, ht, t.granted_holds.capacity (k.capacity w)⟩

/-- Settles O59: a step on an empty queue stands still, and every row keeps the capacities, whatever is left in
the queue. -/
theorem stepsKeepCapacities : Obligations.StepsKeepCapacities := by
  intro s t w h
  unfold step at h
  split at h
  · cases h
    exact w
  · rename_i c rest _
    obtain ⟨u, hu, k⟩ := exec_within c (s := { s with pending := rest }) ⟨w.reads, w.reports, w.inflight, w.fades,
      w.runs, w.actions, w.recalls, w.pages, w.routes⟩
    rw [hu] at h
    cases h
    exact k

end Sys2Proof.Machine
end

section
/-! PROOFS. What power-on leaves (10, R181). -/

namespace Sys2Proof.Machine

/-- A table filled with one value gives it for every number, inside and outside. -/
theorem tget_replicate {α : Type} (n i : Nat) (x : α) : tget (Vector.replicate n x) i x = x := by
  simp only [tget, Vector.getElem?_replicate]
  split <;> rfl

/-- The same, inside, whatever stands for an entry outside. -/
theorem tget_replicate_inside {α : Type} {n i : Nat} (x d : α) (h : i < n) :
    tget (Vector.replicate n x) i d = x := by
  simp [tget, h]

/-! ### Tables at reset -/

theorem State.reset_bus (b : Nat) : State.reset.bus b = Bus.reset := tget_replicate _ _ _

theorem State.reset_voice (v : Nat) : State.reset.voice v = Voice.reset := tget_replicate _ _ _

theorem State.reset_mix (m : Nat) : State.reset.mix m = Mix.reset := tget_replicate _ _ _

theorem State.reset_zone (z : Nat) : State.reset.zone z = Zone.reset := tget_replicate _ _ _

theorem State.reset_input (c : Nat) : State.reset.input c = Input.reset := tget_replicate _ _ _

theorem State.reset_channel (c : Nat) : State.reset.levelOf (.channel c) = off := tget_replicate _ _ _

theorem State.reset_master (b : Nat) : State.reset.levelOf (.master b) = 0 := tget_replicate _ _ _

theorem State.reset_duck (z : Nat) : State.reset.levelOf (.duck z) = 0 := tget_replicate _ _ _

theorem State.reset_within : State.reset.WithinCapacity :=
  State.resetBlocks_within (s := State.reset) (l := []) (Nat.zero_le _)

/-- Power-on leaves the part STOPPED, where the arbiter grants nothing. -/
theorem State.powerOn_granted (s : State) : s.powerOn.granted = s.powerOn :=
  State.granted_of_none (State.grantDue_still (.inl rfl))

/-- Settles O2: no grant is due after power-on, and every table of the reset state is filled with its entry's
reset value. -/
theorem powerOnLeavesResetValues : Obligations.PowerOnLeavesResetValues := by
  refine ⟨fun s => ?_, rfl, rfl, rfl, rfl, rfl, fun c hc => ?_, fun b hb => ?_, fun z h1 h2 => ?_,
    fun v h1 h2 => ?_, fun m h1 h2 => ?_, fun c h1 h2 => ?_, rfl, rfl, rfl, rfl, rfl, rfl, rfl, rfl, rfl, rfl,
    rfl, rfl, rfl, rfl, State.reset_within⟩
  · exact congrArg Host.Outcome.next s.powerOn_granted
  · exact ⟨State.reset_channel c, tget_replicate_inside _ _ hc⟩
  · simp only [State.reset_master, State.reset_bus, Bus.reset, and_self]
  · simp only [State.reset_duck, State.reset_zone, Zone.reset, and_self]
  · rw [State.reset_voice]; rfl
  · simp only [State.reset_mix, Mix.reset, and_self]
  · simp only [State.reset_input, Input.reset, and_self]

end Sys2Proof.Machine
end

section
/-! PROOFS. The fade laws (01, R5). -/

namespace Sys2Proof.Machine

/-! ### The shaped count -/

theorem shapedCount_linear (k d : Nat) : shapedCount .linear k d = k := rfl

theorem shapedCount_early (k d : Nat) : shapedCount .early k d = k * (2 * d - k) / d := rfl

theorem shapedCount_late (k d : Nat) : shapedCount .late k d = k * k / d := rfl

theorem shapedCount_zero (law : Law) (d : Nat) : shapedCount law 0 d = 0 := by
  cases law <;> simp [shapedCount]

theorem shapedCount_full (law : Law) {d : Nat} (h : 0 < d) : shapedCount law d d = d := by
  cases law with
  | linear => rfl
  | early =>
    rw [shapedCount_early, two_mul, Nat.add_sub_cancel]
    exact Nat.mul_div_cancel d h
  | late => exact Nat.mul_div_cancel d h

/-- Up to its duration a fade's count k × (2D − k) does not fall: from j to k it gains (k − j) × (2D − k − j). -/
theorem early_count_mono {j k d : Nat} (hj : j ≤ k) (hk : k ≤ d) : j * (2 * d - j) ≤ k * (2 * d - k) := by
  obtain ⟨a, rfl⟩ := Nat.exists_eq_add_of_le hj
  obtain ⟨b, rfl⟩ := Nat.exists_eq_add_of_le hk
  have e1 : 2 * (j + a + b) - j = j + 2 * a + 2 * b := by omega
  have e2 : 2 * (j + a + b) - (j + a) = j + a + 2 * b := by omega
  rw [e1, e2]
  nlinarith

theorem shapedCount_mono (law : Law) {j k d : Nat} (hj : j ≤ k) (hk : k ≤ d) :
    shapedCount law j d ≤ shapedCount law k d := by
  cases law with
  | linear => exact hj
  | early => exact Nat.div_le_div_right (early_count_mono hj hk)
  | late => exact Nat.div_le_div_right (Nat.mul_le_mul hj hj)

theorem shapedCount_le (law : Law) {k d : Nat} (h : 0 < d) (hk : k ≤ d) : shapedCount law k d ≤ d :=
  (shapedCount_mono law hk le_rfl).trans_eq (shapedCount_full law h)

/-! ### The level of a fade -/

/-- A share n of d of a difference, cut toward zero, lies between 0 and the difference. -/
theorem tdiv_share_between (x : Int) {n d : Nat} (h : 0 < d) (hn : n ≤ d) :
    min 0 x ≤ (x * (n : Int)).tdiv d ∧ (x * (n : Int)).tdiv d ≤ max 0 x := by
  have hd : (0 : Int) < d := by exact_mod_cast h
  have hn' : (n : Int) ≤ d := by exact_mod_cast hn
  have rising : ∀ y : Int, 0 ≤ y → 0 ≤ (y * (n : Int)).tdiv d ∧ (y * (n : Int)).tdiv d ≤ y := by
    intro y hy
    have hp : 0 ≤ y * (n : Int) := mul_nonneg hy (Int.natCast_nonneg n)
    refine ⟨Int.tdiv_nonneg hp hd.le, ?_⟩
    rw [Int.tdiv_eq_ediv_of_nonneg hp]
    exact Int.ediv_le_of_le_mul hd (mul_le_mul_of_nonneg_left hn' hy)
  rcases le_total 0 x with hx | hx
  · have := rising x hx
    omega
  · have := rising (-x) (by omega)
    rw [neg_mul, Int.neg_tdiv] at this
    omega

theorem fadeLevel_eq (s t : Int) (d k : Nat) (law : Law) :
    fadeLevel s t d k law = s + ((t - s) * (shapedCount law k d : Int)).tdiv d := rfl

theorem fadeLevel_between (s t : Int) {d k : Nat} (law : Law) (h : 0 < d) (hk : k ≤ d) :
    min s t ≤ fadeLevel s t d k law ∧ fadeLevel s t d k law ≤ max s t := by
  have share := tdiv_share_between (t - s) h (shapedCount_le law h hk)
  have shift : ∀ x : Int, min 0 (t - s) ≤ x ∧ x ≤ max 0 (t - s) → min s t ≤ s + x ∧ s + x ≤ max s t := by omega
  exact shift _ share

/-- A fade reaches its target at its last step. -/
theorem fadeLevel_last (s t : Int) {d : Nat} (law : Law) (h : 0 < d) : fadeLevel s t d d law = t := by
  have hd : (d : Int) ≠ 0 := by exact_mod_cast h.ne'
  rw [fadeLevel_eq, shapedCount_full law h, Int.mul_tdiv_cancel _ hd]
  exact add_sub_cancel s t

/-- Settles O56: the count of each law runs from 0 to D without falling, and a level moves by its share of the
way from S to T. -/
theorem fadeLawsStayBetween : Obligations.FadeLawsStayBetween := by
  intro law s t d k h hk
  have between := fadeLevel_between s t law h hk
  exact ⟨shapedCount_linear k d, shapedCount_early k d, shapedCount_late k d, shapedCount_zero law d,
    shapedCount_full law h, fun j hj => shapedCount_mono law hj hk, fadeLevel_eq s t d k law, between.1, between.2,
    fadeLevel_last s t law h, rfl, by decide⟩

end Sys2Proof.Machine
end

section
/-! PROOFS. What the row of a chain command comes to, and the rules of the level unit that the level commands
use. -/

namespace Sys2Proof.Machine

/-! ### Commands that finish their record -/

/-- `n` is as far as `m` in taking commands: the window cache, the in-flight table and the reader are the same. -/
structure Ml.TakesLike (m n : Ml) : Prop where
  windows : n.windows = m.windows
  inflight : n.inflight = m.inflight
  reader : n.reader = m.reader
  lookOwed : n.lookOwed = m.lookOwed

theorem Ml.TakesLike.refl (m : Ml) : m.TakesLike m := ⟨rfl, rfl, rfl, rfl⟩

theorem State.settle_tellHost {u : State} (hq : u.notices = []) (x : Target) (c : FadeCause) :
    (u.tell (.fade .host x c)).settle = u := by
  have hn : (u.tell (.fade .host x c)).notices = [.fade .host x c] := by rw [State.tell_notices, hq]; rfl
  rw [State.settle_host hn]
  cases u
  cases hq
  rfl

section
variable {s t u : State} {r : Link} {i : Instr} {res : Result} {why : Reason} {k : Bool}

/-- Where a command comes to `t` and finishes its record, and `t` raises no notice. -/
theorem State.Ready.exec_finish (h : s.Ready r) (hi : recordLink i = some r)
    (hf : State.runCommand i s = t.finish r res why k) (hm : s.ml.TakesLike t.ml) (hq : t.notices = []) :
    exec i s = .next (t.outcome r res why k).granted := by
  have hand := h.handed (f := State.runCommand i) (hf.trans (h.finish t hm.windows res why k)) hq hm.inflight
    hm.reader hm.lookOwed
  rw [h.exec_handed hi, hand]

/-- The same, where a notice to the host may stand, on which no block acts (01, R15). -/
theorem State.Ready.exec_finish_host (h : s.Ready r) (hi : recordLink i = some r)
    (hf : State.runCommand i s = t.finish r res why k) (ht : t = u ∨ ∃ x c, t = u.tell (.fade .host x c))
    (hm : s.ml.TakesLike u.ml) (hq : u.notices = []) :
    exec i s = .next (u.outcome r res why k).granted := by
  rcases ht with rfl | ⟨x, c, rfl⟩
  · exact h.exec_finish hi hf hm hq
  · have hand : s.handed (State.runCommand i) = s.handed fun _ => u.outcome r res why k := by
      have done : State.runCommand i s = (u.outcome r res why k).tell (.fade .host x c) :=
        hf.trans (h.finish (u.tell _) hm.windows res why k)
      have settled : (u.outcome r res why k).settle = u.outcome r res why k := State.settle_quiet (by simpa using hq)
      unfold State.handed
      rw [done, State.settle_tellHost (by simpa using hq), settled]
    rw [h.exec_handed hi, hand, h.handed (f := fun _ => u.outcome r res why k) rfl hq hm.inflight hm.reader hm.lookOwed]

/-- A command that is refused changes nothing (11, R193). -/
theorem State.Ready.exec_refused (h : s.Ready r) (hi : recordLink i = some r)
    (hf : State.runCommand i s = s.finish r res why k) :
    exec i s = .next (s.outcome r res why k).granted :=
  h.exec_finish hi hf (.refl _) h.quiet

end

/-! ### Level and duration fields (01, R1, R3, R6) -/

theorem readLevel_inside {v : Int} (h1 : -1024 ≤ v) (h2 : v ≤ 128) : readLevel v = (v, false) := by
  have h0 : (v == -32768) = false := by simp; omega
  have hh : ¬ v > 128 := by omega
  simp [readLevel, h0, hh, h1]

theorem readLevel_above {v : Int} (h : 128 < v) : readLevel v = (128, true) := by
  have h0 : (v == -32768) = false := by simp; omega
  simp [readLevel, h0, h]

/-- A field is taken within OFF up to a bound, with CLAMPED where that changes it; −32768 is OFF without it. -/
theorem clipped_eq {bound : Int} (hb : -1024 ≤ bound) (v : Int) :
    (if v == -32768 then (off, false)
      else if v > bound then (bound, true)
      else if v ≥ -1024 then (v, false)
      else (off, true)) =
    ((max (-1024) (min bound v), decide (max (-1024) (min bound v) ≠ v ∧ v ≠ -32768)) : Int × Bool) := by
  simp only [beq_iff_eq, off]
  split_ifs with h0 h1 h2
  · rw [h0, min_eq_right (by omega), max_eq_left (by omega)]
    rfl
  · rw [min_eq_left h1.le, max_eq_right hb]
    simp [h0, (ne_of_gt h1).symm]
  · rw [min_eq_right (not_lt.1 h1), max_eq_right h2]
    simp
  · rw [min_eq_right (not_lt.1 h1), max_eq_left (by omega)]
    have : (-1024 : Int) ≠ v := by omega
    simp [h0, this]

theorem readLevel_eq (v : Int) :
    readLevel v = (max (-1024) (min 128 v), decide (max (-1024) (min 128 v) ≠ v ∧ v ≠ -32768)) :=
  clipped_eq (by decide) v

theorem readOffset_eq (v : Int) :
    readOffset v = (max (-1024) (min 0 v), decide (max (-1024) (min 0 v) ≠ v ∧ v ≠ -32768)) :=
  clipped_eq (by decide) v

theorem readDuration_inside {t : Nat} (h : t ≤ 3600000) : readDuration t = (t, false) := by
  simp [readDuration, Config.longestDuration, Nat.not_lt.2 h]

theorem relativeTarget_inside {cur d : Int} (h1 : -1024 ≤ cur + d) (h2 : cur + d ≤ 128) :
    relativeTarget cur d = (cur + d, false) := by
  have hh : ¬ cur + d > 128 := by omega
  simp [relativeTarget, hh, h1]

theorem relativeTarget_below {cur d : Int} (h : cur + d < -1024) : relativeTarget cur d = (off, true) := by
  have hh : ¬ cur + d > 128 := by omega
  have hl : ¬ -1024 ≤ cur + d := by omega
  simp [relativeTarget, hh, hl]

/-! ### Targets (01, R22) -/

section
variable (s : State)

theorem State.checkTarget_channel {c id : Nat} (h : c ≤ 122) : s.checkTarget ⟨0, c, id⟩ = .ok (.channel c) := by
  simp [State.checkTarget, targetOf, h]

theorem State.checkTarget_master {b id : Nat} (h : b ≤ 24) : s.checkTarget ⟨2, b, id⟩ = .ok (.master b) := by
  simp [State.checkTarget, targetOf, h]

theorem State.checkTarget_zoneLevel {z id : Nat} (h1 : 1 ≤ z) (h2 : z ≤ 32) :
    s.checkTarget ⟨3, z, id⟩ = .ok (.zoneLevel z) := by
  simp [State.checkTarget, targetOf, h1, h2]

theorem State.checkTarget_none {t : TargetField} (h : targetOf t = none) :
    s.checkTarget t = .error { res := .range } := by
  simp [State.checkTarget, h]

/-- The offset targets and unknown kinds are refused, and so are channels and masters out of range. -/
theorem targetOf_refused {t : TargetField}
    (h : 3 < t.kind ∨ t.kind = 0 ∧ 122 < t.id1 ∨ t.kind = 2 ∧ 24 < t.id1) : targetOf t = none := by
  obtain ⟨kind, id1, id2⟩ := t
  simp only at h
  rcases h with h | ⟨rfl, h⟩ | ⟨rfl, h⟩
  · have hk : kind = kind - 4 + 4 := by omega
    rw [hk]
    rfl
  · simp [targetOf, Nat.not_le.2 h]
  · simp [targetOf, Nat.not_le.2 h]

/-! ### The fade table (01, R13, R15) -/

variable {s}

theorem State.fadeOn_none_iff {x : Target} : s.fadeOn x = none ↔ ∀ f ∈ s.lv.fades, f.target ≠ x := by
  simp [State.fadeOn]

theorem withoutFade_of_none {l : List Fade} {x : Target} (h : ∀ f ∈ l, f.target ≠ x) : withoutFade l x = l := by
  simpa [withoutFade] using h

theorem State.dropFade_none {x : Target} (h : s.fadeOn x = none) (c : FadeCause) : s.dropFade x c = s := by
  simp [State.dropFade, h]

theorem State.dropFade_some {x : Target} {f : Fade} (h : s.fadeOn x = some f) (c : FadeCause) :
    s.dropFade x c = (s.setFades (withoutFade s.lv.fades x)).tell (.fade f.owner x c) := by
  simp [State.dropFade, h]

theorem State.fadeOn_mem {x : Target} {f : Fade} (h : s.fadeOn x = some f) : f ∈ s.lv.fades ∧ f.target = x :=
  ⟨List.mem_of_find?_eq_some h, by simpa using List.find?_some h⟩

/-- A removal where only the host owns a fade on the target: the table without it, and at most a notice to the
host. -/
theorem State.dropFade_host {x : Target} (h : ∀ f ∈ s.lv.fades, f.target = x → f.owner = .host) (c : FadeCause) :
    s.dropFade x c = s.setFades (withoutFade s.lv.fades x) ∨
      s.dropFade x c = (s.setFades (withoutFade s.lv.fades x)).tell (.fade .host x c) := by
  cases hf : s.fadeOn x with
  | none =>
    left
    rw [State.dropFade_none hf, withoutFade_of_none (State.fadeOn_none_iff.1 hf)]
    rfl
  | some f =>
    obtain ⟨hm, ht⟩ := State.fadeOn_mem hf
    right
    rw [State.dropFade_some hf, h f hm ht]

theorem State.putLevel_tell (s : State) (x : Target) (v : Level) (n : Notice) :
    (s.tell n).putLevel x v = (s.putLevel x v).tell n := by cases x <;> rfl

theorem State.revive_tell (s : State) (x : Target) (n : Notice) : (s.tell n).revive x = (s.revive x).tell n := by
  cases x <;> rfl

/-- An instant set where only the host owns a fade on the target (01, R7). -/
theorem State.setInstant_host {x : Target} (h : ∀ f ∈ s.lv.fades, f.target = x → f.owner = .host) (v : Level) :
    s.setInstant x v = ((s.setFades (withoutFade s.lv.fades x)).putLevel x v).revive x ∨
      ∃ y c, s.setInstant x v =
        (((s.setFades (withoutFade s.lv.fades x)).putLevel x v).revive x).tell (.fade .host y c) := by
  unfold State.setInstant
  rcases State.dropFade_host h .takenOver with e | e
  · exact .inl (by rw [e])
  · exact .inr ⟨x, .takenOver, by rw [e, State.putLevel_tell, State.revive_tell]⟩

/-- An instant set of a target without a fade. -/
theorem State.setInstant_none {x : Target} (h : s.fadeOn x = none) (v : Level) :
    s.setInstant x v = (s.putLevel x v).revive x := by
  rw [State.setInstant, State.dropFade_none h]

/-- A fade of a target without a fade, with a place in the table, is entered from the value in the store
(01, R16). -/
theorem State.fadeTo_enters {x : Target} (h : s.fadeOn x = none) (hr : s.lv.fades.length < 1024) (v : Level)
    (ms : Nat) (law : Law) (o : Owner) (remove : Bool) :
    s.fadeTo x v ms law o remove =
      let t := s.setFades (s.lv.fades ++ [⟨x, o, s.levelOf x, v, fadePeriods s.ck.rate ms, 0, law, remove,
        isCueOwner o && s.frozen⟩])
      if remove then t else t.revive x := by
  have hc : ¬ ((s.fadeOn x).isNone = true ∧ s.lv.fades.length ≥ Config.fadeCapacity) := by
    simp only [Config.fadeCapacity]; omega
  rw [State.fadeTo, if_neg hc, State.enterFade, State.dropFade_none h]

end

end Sys2Proof.Machine
end

section
/-! PROOFS. The level commands and REMOVE_CONTRIB (01, R22–R25; 02, R47). -/

namespace Sys2Proof.Machine

section
variable {s : State} {r : Link}

/-! ### SET_LEVEL -/

theorem State.applySetLevel_ok {tf : TargetField} {mode : Nat} {v : Int} {x : Target} {y : Level} {k : Bool}
    (hm : mode ≤ 1) (hx : s.checkTarget tf = .ok x) (hy : s.fixTarget x mode v = (y, k)) :
    s.applySetLevel tf mode v = .ok (s.setInstant x y, k) := by
  simp [State.applySetLevel, Nat.not_lt.2 hm, hx, hy, bind, Except.bind]

/-- A mode, a kind or an id out of range refuses the command (01, R22). -/
theorem State.applySetLevel_refused {tf : TargetField} (mode : Nat) (v : Int)
    (h : 1 < mode ∨ targetOf tf = none) : s.applySetLevel tf mode v = .error { res := .range } := by
  unfold State.applySetLevel
  split
  · rfl
  · rename_i hm
    rw [s.checkTarget_none (h.resolve_left hm)]
    rfl

/-- SET_LEVEL on a channel that no fade but the host's runs on writes the level that its mode fixes. -/
theorem State.Ready.setLevel_channel (h : s.Ready r) {c : Nat} (hc : c ≤ 122)
    (ho : ∀ f ∈ s.lv.fades, f.target = .channel c → f.owner = .host) (id : Nat) {mode : Nat} (hm : mode ≤ 1)
    {v : Int} {y : Level} {k : Bool} (hy : s.fixTarget (.channel c) mode v = (y, k)) :
    exec (.setLevel r ⟨0, c, id⟩ mode v) s = .next (({ s with lv := { s.lv with
      channel := s.lv.channel.setIfInBounds c y,
      fades := s.lv.fades.filter fun f => !(f.target == .channel c) } } : State).outcome r .ok .none k).granted := by
  refine h.exec_finish_host (t := s.setInstant (.channel c) y) rfl ?_ (State.setInstant_host ho y) (.refl _) h.quiet
  show s.answer r (s.applySetLevel ⟨0, c, id⟩ mode v) = _
  rw [State.applySetLevel_ok hm (s.checkTarget_channel hc) hy]
  rfl

/-- Settles O31: each mode fixes its level within the range of R1. -/
theorem setLevelSetsAChannel : Obligations.SetLevelSetsAChannel := by
  intro s r c id v h hc ho
  refine ⟨fun h1 h2 => ?_, fun h1 => ?_, fun h1 h2 => ?_, fun h1 => ?_, fun tf mode hr => ?_⟩
  · exact h.setLevel_channel hc ho id (mode := 0) (by omega) (readLevel_inside h1 h2)
  · exact h.setLevel_channel hc ho id (mode := 0) (by omega) (readLevel_above h1)
  · exact h.setLevel_channel hc ho id (mode := 1) le_rfl (relativeTarget_inside h1 h2)
  · exact h.setLevel_channel hc ho id (mode := 1) le_rfl (relativeTarget_below h1)
  · refine h.exec_refused rfl ?_
    show s.answer r (s.applySetLevel tf mode v) = _
    rw [State.applySetLevel_refused mode v (hr.imp_right targetOf_refused)]
    rfl

/-! ### FADE -/

theorem State.applyFade_ok {tf : TargetField} {mode law ms : Nat} {v : Int} {x : Target} {y : Level} {k : Bool}
    {lw : Law} (hl : lawOf law = some lw) (hm : mode ≤ 1) (hx : s.checkTarget tf = .ok x)
    (hy : s.fixTarget x mode v = (y, k)) (hms : ms ≤ 3600000) (o : Owner) :
    s.applyFade tf mode v ms law o = .ok (s.fadeOrSet x y ms lw o, k) := by
  simp [State.applyFade, hl, Nat.not_lt.2 hm, hx, hy, readDuration_inside hms, bind, Except.bind]

theorem lawOf_none {law : Nat} (h : 2 < law) : lawOf law = none := by
  have e : law = law - 3 + 3 := by omega
  rw [e]
  rfl

theorem lawOf_some {law : Nat} (h : law ≤ 2) : ∃ lw, lawOf law = some lw := by
  interval_cases law <;> exact ⟨_, rfl⟩

theorem State.applyFade_refused {law : Nat} (hl : 2 < law) (tf : TargetField) (mode : Nat) (v : Int) (ms : Nat)
    (o : Owner) : s.applyFade tf mode v ms law o = .error { res := .range } := by
  rw [State.applyFade, lawOf_none hl]

/-- Settles O32: a master without a fade gets an entry at the end of the table; a duration of 0 asks for the
instant set of SET_LEVEL. -/
theorem fadeEntersTheTable : Obligations.FadeEntersTheTable := by
  intro s r b id ms v h hb h1 h2
  have hx := s.checkTarget_master (id := id) hb
  have hy : s.fixTarget (.master b) 0 v = (v, false) := readLevel_inside h1 h2
  refine ⟨fun hn hr m1 m2 => ?_, fun law hl => ?_, fun tf mode law hl => ?_⟩
  · have m0 : ¬ ms = 0 := by omega
    refine h.exec_finish (t := s.setFades _) rfl ?_ (.refl _) h.quiet
    show s.answer r (s.applyFade ⟨2, b, id⟩ 0 v ms 1 .host) = _
    rw [State.applyFade_ok rfl (Nat.zero_le _) hx hy m2, State.fadeOrSet, if_neg m0, State.fadeTo_enters hn hr]
    rfl
  · obtain ⟨lw, hlw⟩ := lawOf_some hl
    have same : State.runCommand (.fade r ⟨2, b, id⟩ 0 v 0 law) s =
        State.runCommand (.setLevel r ⟨2, b, id⟩ 0 v) s := by
      show s.answer r (s.applyFade ⟨2, b, id⟩ 0 v 0 law .host) = s.answer r (s.applySetLevel ⟨2, b, id⟩ 0 v)
      rw [State.applyFade_ok hlw (Nat.zero_le _) hx hy (Nat.zero_le _), State.applySetLevel_ok (Nat.zero_le _) hx hy]
      rfl
    rw [h.exec_handed rfl, h.exec_handed rfl]
    unfold State.handed
    rw [same]
  · refine h.exec_refused rfl ?_
    show s.answer r (s.applyFade tf mode v ms law .host) = _
    rw [State.applyFade_refused hl]
    rfl

/-! ### STOP_FADE -/

theorem State.applyStopFade_none {tf : TargetField} {x : Target} (hx : s.checkTarget tf = .ok x)
    (hn : s.fadeOn x = none) : s.applyStopFade tf = .ok (s, false) := by
  simp [State.applyStopFade, hx, hn, bind, Except.bind]

theorem State.applyStopFade_some {tf : TargetField} {x : Target} {f : Fade} (hx : s.checkTarget tf = .ok x)
    (hf : s.fadeOn x = some f) (hr : f.remove = false) :
    s.applyStopFade tf = .ok ((s.setFades (withoutFade s.lv.fades x)).tell (.fade f.owner x .stopped), false) := by
  simp [State.applyStopFade, hx, hf, hr, State.dropFade_some hf, bind, Except.bind]

/-- Settles O33: the entry goes with a notice to the host, on which no block acts. -/
theorem stopFadeLeavesTheLevel : Obligations.StopFadeLeavesTheLevel := by
  intro s r z id h h1 h2
  have hx := s.checkTarget_zoneLevel (id := id) h1 h2
  refine ⟨fun hn => ?_, fun f hf ho hr => ?_, fun k i j hk => ?_⟩
  · refine h.exec_finish rfl ?_ (.refl _) h.quiet
    show s.answer r (s.applyStopFade ⟨3, z, id⟩) = _
    rw [State.applyStopFade_none hx hn]
    rfl
  · refine h.exec_finish_host (u := s.setFades (withoutFade s.lv.fades (.zoneLevel z))) rfl ?_
      (.inr ⟨.zoneLevel z, .stopped, rfl⟩) (.refl _) h.quiet
    show s.answer r (s.applyStopFade ⟨3, z, id⟩) = _
    rw [State.applyStopFade_some hx hf hr, ho]
    rfl
  · refine h.exec_refused rfl ?_
    show s.answer r (s.applyStopFade ⟨k, i, j⟩) = _
    rw [State.applyStopFade, s.checkTarget_none (targetOf_refused (t := ⟨k, i, j⟩) (.inl hk))]
    rfl

/-! ### REMOVE_CONTRIB -/

theorem busAccepts_source {b c : Nat} (hb : b ≤ 23) (hc : c ≤ 121) : busAccepts b c = true := by
  unfold busAccepts
  split
  · exact decide_eq_true (by omega)
  · rw [if_pos (by omega)]
    exact decide_eq_true hc

/-- REMOVE_CONTRIB of an entry in the list: its duration decides between deletion and leaving. -/
theorem State.applyRemoveContrib_some {b c law ms : Nat} {lw : Law} {x : Contrib} (hl : lawOf law = some lw)
    (hb : b ≤ 23) (hc : c ≤ 121) (hx : s.contrib b c = some x) (hms : ms ≤ 3600000) (o : Owner) :
    s.applyRemoveContrib b c ms law o =
      if ms = 0 then .ok (s.deleteContrib b c, false) else .ok (s.leave b c ms lw o, false) := by
  have hb' : ¬ 24 < b := by omega
  simp [State.applyRemoveContrib, hl, hb', busAccepts_source hb hc, hx, readDuration_inside hms]

theorem State.applyRemoveContrib_none {b c law : Nat} (hl : law ≤ 2) (hb : b ≤ 23) (hc : c ≤ 121)
    (hx : s.contrib b c = none) (ms : Nat) (o : Owner) :
    s.applyRemoveContrib b c ms law o = .error { res := .state } := by
  obtain ⟨lw, hlw⟩ := lawOf_some hl
  have hb' : ¬ 24 < b := by omega
  simp [State.applyRemoveContrib, hlw, hb', busAccepts_source hb hc, hx]

/-- A contribution without a fade is deleted into a tail (02, R35). -/
theorem State.deleteContrib_quiet {b c : Nat} {x : Contrib} (hx : s.contrib b c = some x)
    (hn : s.fadeOn (.crosspoint b c) = none) :
    s.deleteContrib b c = s.setBus b { s.bus b with
      list := (s.bus b).list.filter fun y => !(y.source == c),
      tails := (s.bus b).tails ++ [⟨c, x.path, false⟩] } := by
  unfold State.deleteContrib
  rw [hx]
  exact State.dropFade_none (s := s.setBus b _) hn _

/-- Settles O36: the entry is deleted at once, or marked and given a fade whose completion deletes it. -/
theorem removeContribDeletesOrLeaves : Obligations.RemoveContribDeletesOrLeaves := by
  intro s r b c law x h hl hb hc hn
  refine ⟨fun hx => ?_, fun ms hx m1 m2 hr => ?_, fun hx => ?_⟩
  · obtain ⟨lw, hlw⟩ := lawOf_some hl
    refine h.exec_finish (t := s.setBus b _) rfl ?_ (.refl _) h.quiet
    show s.answer r (s.applyRemoveContrib b c 0 law .host) = _
    rw [State.applyRemoveContrib_some hlw hb hc hx (Nat.zero_le _), if_pos rfl, State.deleteContrib_quiet hx hn]
    rfl
  · have m0 : ¬ ms = 0 := by omega
    have level : (s.mapContrib b c fun y => { y with leaving := true }).levelOf (.crosspoint b c) = x.level := by
      simp [State.levelOf, s.contrib_mapContrib c _ _ (show b < 25 by omega), hx, findContrib_source hx]
    have entered := State.fadeTo_enters (s := s.mapContrib b c fun y => { y with leaving := true }) hn hr off ms
      .linear .host true
    rw [level] at entered
    refine ⟨_, h.exec_finish (t := (s.mapContrib b c fun y => { y with leaving := true }).setFades _) rfl ?_
      (.refl _) h.quiet, ?_, rfl, rfl, rfl⟩
    · show s.answer r (s.applyRemoveContrib b c ms 0 .host) = _
      rw [State.applyRemoveContrib_some rfl hb hc hx m2, if_neg m0, State.leave, entered]
      rfl
    · exact congrArg Bus.list (s.bus_setBus _ (show b < 25 by omega))
  · refine h.exec_refused rfl ?_
    show s.answer r (s.applyRemoveContrib b c 0 law .host) = _
    rw [State.applyRemoveContrib_none hl hb hc hx]
    rfl

end

end Sys2Proof.Machine
end

section
/-! PROOFS. The commands that write a record field by field: SET_FOLDBACK, SET_ZONE and SET_PAGE_BUTTON (05, R121;
06, R144, R146). -/

namespace Sys2Proof.Machine

/-! ### Fields that may be LEAVE -/

/-- A field read by a function whose value and clamp are known: written where it is given, kept at LEAVE. -/
theorem readOr_eq {α β : Type} {read : α → β × Bool} {g : α → β} {cut : α → Bool}
    (h : ∀ v, read v = (g v, cut v)) (f : Option α) (old : β) :
    readOr f old read = ((f.map g).getD old, f.any cut) := by
  cases f with
  | none => rfl
  | some v => exact h v

theorem readStep_eq (n : Nat) : readStep n = (max 1 (min 64 n), decide (max 1 (min 64 n) ≠ n)) := by
  unfold readStep
  split_ifs with h1 h2
  · rw [min_eq_left h1.le]
    simp [(ne_of_gt h1).symm]
  · subst h2
    rfl
  · rw [min_eq_right (not_lt.1 h1), max_eq_right (by omega)]
    simp

theorem readDuckTime_eq (n : Nat) : readDuckTime n = (min 60000 n, decide (60000 < n)) := by
  unfold readDuckTime
  split_ifs with h
  · simp [min_eq_left h.le, h]
  · simp [min_eq_right (not_lt.1 h), h]

/-- A field with two values, coded 0 and 1, or LEAVE. -/
theorem twoValued_iff (o : Option Nat) : twoValued o = true ↔ ∀ v, o = some v → v ≤ 1 := by
  cases o <;> simp [twoValued]

theorem twoValued_false {o : Option Nat} (h : ∃ v, o = some v ∧ 1 < v) : twoValued o = false := by
  obtain ⟨v, rfl, hv⟩ := h
  exact decide_eq_false (Nat.not_le.2 hv)

/-! ### SET_FOLDBACK -/

/-- The mix record that SET_FOLDBACK writes, field by field (05, R121). -/
theorem writeMix_eq (x : Mix) (f : FoldbackField) :
    let offset := fun v : Int => max (-1024) (min 0 v)
    let level := fun v : Int => max (-1024) (min 128 v)
    let step := fun n : Nat => max 1 (min 64 n)
    let cut := fun (o : Option Int) (g : Int → Int) => o.any fun v => decide (g v ≠ v ∧ v ≠ -32768)
    let cutStep := fun o : Option Nat => o.any fun n => decide (step n ≠ n)
    writeMix x f =
      ({ x with
          held := (f.hold.map fun h => decide (h = 0)).getD x.held
          ceiling := (f.ceiling.map offset).getD x.ceiling
          attack := (f.attack.map step).getD x.attack
          release := (f.release.map step).getD x.release
          talkLevel := (f.talkLevel.map level).getD x.talkLevel
          dimDepth := (f.dim.map offset).getD x.dimDepth
          inSet := (f.member.map fun h => decide (h = 0)).getD x.inSet },
        cut f.ceiling offset || cutStep f.attack || cutStep f.release || cut f.talkLevel level ||
          cut f.dim offset) := by
  simp only [writeMix, readOr_eq readOffset_eq, readOr_eq readStep_eq, readOr_eq readLevel_eq]
  cases f.hold <;> cases f.member <;> rfl

theorem State.followTalk_silent {s : State} {m : Nat} (h1 : s.fb.talk = false) (h2 : (s.mix m).talking = false) :
    s.followTalk m = s := by
  simp [State.followTalk, h1, h2]

/-- With talk off and the mix silent, SET_FOLDBACK writes the mix record alone. -/
theorem State.applySetFoldback_silent {s : State} {m : Nat} {f : FoldbackField} (h1 : 1 ≤ m) (h2 : m ≤ 16)
    (ht : s.fb.talk = false) (hx : (s.mix m).talking = false) (hh : twoValued f.hold = true)
    (hm : twoValued f.member = true) :
    s.applySetFoldback m f = .ok (s.setMix m (writeMix (s.mix m) f).1, (writeMix (s.mix m) f).2) := by
  have quiet : (s.setMix m (writeMix (s.mix m) f).1).followTalk m = s.setMix m (writeMix (s.mix m) f).1 :=
    State.followTalk_silent ht (by rw [s.mix_setMix _ h1 h2]; exact hx)
  simp [State.applySetFoldback, h1, h2, hh, hm, hx, quiet]

theorem State.applySetFoldback_refused (s : State) {m : Nat} {f : FoldbackField}
    (h : ¬ (1 ≤ m ∧ m ≤ 16) ∨ twoValued f.hold = false ∨ twoValued f.member = false) :
    s.applySetFoldback m f = .error { res := .range } := by
  simp only [State.applySetFoldback, Bool.not_eq_true']
  rw [if_pos h]

/-- Settles O44: the record is read field by field, and a silent mix follows no talk. -/
theorem setFoldbackWritesTheMix : Obligations.SetFoldbackWritesTheMix := by
  intro s r m f h
  refine ⟨fun h1 h2 ht hx hh hm => ?_, fun bad => ?_⟩
  · refine h.exec_finish (t := s.setMix m _) rfl ?_ (.refl _) h.quiet
    show s.answer r (s.applySetFoldback m f) = _
    rw [State.applySetFoldback_silent h1 h2 ht hx ((twoValued_iff _).2 hh) ((twoValued_iff _).2 hm), writeMix_eq]
    rfl
  · refine h.exec_refused rfl ?_
    show s.answer r (s.applySetFoldback m f) = _
    rw [s.applySetFoldback_refused]
    · rfl
    · rcases bad with bad | bad | bad | bad
      · exact .inl (by omega)
      · exact .inl (by omega)
      · exact .inr (.inl (twoValued_false bad))
      · exact .inr (.inr (twoValued_false bad))

/-! ### SET_ZONE -/

/-- The zone record that SET_ZONE writes, field by field (06, R146). -/
theorem writeZone_eq (x : Zone) (f : ZoneField) :
    let offset := fun v : Int => max (-1024) (min 0 v)
    let level := fun v : Int => max (-1024) (min 128 v)
    let cut := fun (o : Option Int) (g : Int → Int) => o.any fun v => decide (g v ≠ v ∧ v ≠ -32768)
    let cutTime := fun o : Option Nat => o.any fun n => decide (60000 < n)
    writeZone x f =
      ({ x with
          programme := (f.programme.map fun p => decide (p = 0)).getD x.programme
          depth := (f.depth.map offset).getD x.depth
          attack := (f.attack.map fun n => min 60000 n).getD x.attack
          release := (f.release.map fun n => min 60000 n).getD x.release
          groups := f.groups.getD x.groups
          pageLevel := (f.pageLevel.map level).getD x.pageLevel },
        cut f.depth offset || cutTime f.attack || cutTime f.release || cut f.pageLevel level) := by
  simp only [writeZone, readOr_eq readOffset_eq, readOr_eq readDuckTime_eq, readOr_eq readLevel_eq]
  cases f.programme <;> rfl

/-- On a zone without a holder SET_ZONE writes the zone record, and hands over the ON_AIR groups where the groups
have changed. -/
theorem State.applySetZone_free {s : State} {z : Nat} {f : ZoneField} (h1 : 1 ≤ z) (h2 : z ≤ 32)
    (hx : (s.zone z).holder = none) (hp : twoValued f.programme = true) :
    s.applySetZone z f =
      let t := s.setZone z (writeZone (s.zone z) f).1
      .ok (if (writeZone (s.zone z) f).1.groups = (s.zone z).groups then t else t.handOnAir,
        (writeZone (s.zone z) f).2) := by
  have free : (writeZone (s.zone z) f).1.holder = none := hx
  simp [State.applySetZone, h1, h2, hp, free]

theorem State.applySetZone_refused (s : State) {z : Nat} {f : ZoneField}
    (h : ¬ (1 ≤ z ∧ z ≤ 32) ∨ twoValued f.programme = false) :
    s.applySetZone z f = .error { res := .range } := by
  simp only [State.applySetZone, Bool.not_eq_true']
  rw [if_pos h]

theorem setZone_clauses (s : State) (r : Link) (z : Nat) (f : ZoneField) (h : s.Ready r) (h1 : 1 ≤ z) (h2 : z ≤ 32)
    (hx : (s.zone z).holder = none) (hp : twoValued f.programme = true) :
    let w := writeZone (s.zone z) f
    (w.1.groups = (s.zone z).groups →
      exec (.setZone r z f) s = .next ((s.setZone z w.1).outcome r .ok .none w.2).granted) ∧
    (w.1.groups ≠ (s.zone z).groups →
      exec (.setZone r z f) s = .next ((s.setZone z w.1).handOnAir.outcome r .ok .none w.2).granted) := by
  have run : ∀ t, s.applySetZone z f = .ok (t, (writeZone (s.zone z) f).2) →
      State.runCommand (.setZone r z f) s = t.finish r .ok .none (writeZone (s.zone z) f).2 := by
    intro t ht
    show s.answer r (s.applySetZone z f) = _
    rw [ht]
    rfl
  have free := State.applySetZone_free h1 h2 hx hp
  refine ⟨fun hg => ?_, fun hg => ?_⟩
  · simp only [if_pos hg] at free
    exact h.exec_finish rfl (run _ free) (.refl _) h.quiet
  · simp only [if_neg hg] at free
    exact h.exec_finish rfl (run _ free) (.refl _) h.quiet

/-! ### SET_PAGE_BUTTON -/

/-- The button entry that SET_PAGE_BUTTON writes (06, R144). -/
def buttonOf (f : ButtonField) : Button :=
  ⟨f.zones, f.groups, f.priority, decide (f.mode = 1), f.mic⟩

section
variable (s : State) {b : Nat} {f : ButtonField}

theorem State.applySetButton_put (h1 : 1 ≤ b) (h2 : b ≤ 8) (hp : f.priority ≤ 3) (hm : f.mode ≤ 1)
    (hc : f.mic = 1 ∨ f.mic = 2) : s.applySetButton b 0 f =
      .ok ({ s with rc := { s.rc with buttons := tset s.rc.buttons (b - 1) (some (buttonOf f)) } }, false) := by
  unfold State.applySetButton
  simp only
  rw [if_neg (by omega), if_neg (by omega), if_neg (by omega)]
  rfl

theorem State.applySetButton_unset (h1 : 1 ≤ b) (h2 : b ≤ 8) : s.applySetButton b 1 f =
    .ok ({ s with rc := { s.rc with buttons := tset s.rc.buttons (b - 1) none } }, false) := by
  simp [State.applySetButton, h1, h2]

theorem State.applySetButton_refused {u : Nat} (h : b = 0 ∨ 8 < b ∨ 1 < u) :
    s.applySetButton b u f = .error { res := .range } := by
  have bad : ¬ (1 ≤ b ∧ b ≤ 8) ∨ 1 < u := by omega
  simp only [State.applySetButton]
  rw [if_pos bad]

theorem State.applySetButton_badEntry (h : 3 < f.priority ∨ 1 < f.mode ∨ f.mic = 0 ∨ 2 < f.mic) :
    s.applySetButton b 0 f = .error { res := .range } := by
  have bad : 3 < f.priority ∨ 1 < f.mode ∨ ¬ (f.mic = 1 ∨ f.mic = 2) := by omega
  simp only [State.applySetButton]
  rw [if_neg (by omega : ¬ (0 : Nat) = 1), if_pos bad]
  exact ite_self _

end

/-- Settles O47: the zone record is read field by field, and the button entry is put whole or refused. -/
theorem setZoneAndSetPageButton : Obligations.SetZoneAndSetPageButton := by
  refine ⟨fun s r z f h => ⟨fun h1 h2 hx hp => ?_, fun bad => ?_⟩, fun s r b f h => ?_⟩
  · have clauses := setZone_clauses s r z f h h1 h2 hx ((twoValued_iff _).2 hp)
    simp only [writeZone_eq] at clauses
    exact ⟨clauses.1, fun hg => ⟨_, clauses.2 hg, rfl, rfl⟩⟩
  · refine h.exec_refused rfl ?_
    show s.answer r (s.applySetZone z f) = _
    rw [s.applySetZone_refused]
    · rfl
    · rcases bad with bad | bad | bad
      · exact .inl (by omega)
      · exact .inl (by omega)
      · exact .inr (twoValued_false bad)
  · have put : ∀ {u t}, s.applySetButton b u f = .ok (t, false) →
        State.runCommand (.setPageButton r b u f) s = t.finish r .ok := by
      intro u t ht
      show s.answer r (s.applySetButton b u f) = _
      rw [ht]
      rfl
    have refused : ∀ {u}, s.applySetButton b u f = .error { res := .range } →
        State.runCommand (.setPageButton r b u f) s = s.finish r .range := by
      intro u hu
      show s.answer r (s.applySetButton b u f) = _
      rw [hu]
      rfl
    refine ⟨fun h1 h2 hp hm hc => ?_, fun h1 h2 => ?_, fun u bad => ?_, fun bad => ?_⟩
    · exact h.exec_finish rfl (put (s.applySetButton_put h1 h2 hp hm hc)) (.refl _) h.quiet
    · exact h.exec_finish rfl (put (s.applySetButton_unset h1 h2)) (.refl _) h.quiet
    · exact h.exec_refused rfl (refused (s.applySetButton_refused bad))
    · exact h.exec_refused rfl (refused (s.applySetButton_badEntry bad))

end Sys2Proof.Machine
end

section
/-! PROOFS. HOLD and RELEASE: the freeze condition begins and ends (04, R95–R97). -/

namespace Sys2Proof.Machine

/-! ### Operations on voices leave the other blocks alone -/

/-- A chain of operations on voices changes the voices at most. -/
theorem foldl_vu {α : Type} {f : State → α → State} (h : ∀ s x, ∃ V, f s x = { s with vu := V }) (l : List α)
    (s : State) : ∃ V, l.foldl f s = { s with vu := V } := by
  induction l generalizing s with
  | nil => exact ⟨s.vu, rfl⟩
  | cons x xs ih =>
    obtain ⟨V, hV⟩ := h s x
    obtain ⟨W, hW⟩ := ih (f s x)
    exact ⟨W, by rw [List.foldl_cons, hW, hV]⟩

section
variable (s : State)

theorem State.timeVoice_vu (v run : Nat) (x : VStart) : ∃ V, s.timeVoice v run x = { s with vu := V } := by
  unfold State.timeVoice
  split
  · exact ⟨_, rfl⟩
  · exact ⟨s.vu, rfl⟩

theorem State.retimeVoices_vu : ∃ V, s.retimeVoices = { s with vu := V } := by
  refine foldl_vu (fun t q => ?_) s.ce.queue s
  split
  · exact t.timeVoice_vu _ _ _
  · exact ⟨t.vu, rfl⟩

/-! ### A latched GO -/

theorem State.discardLatch_none (h : s.ce.latched = none) (w : IgnoreReason) : s.discardLatch w = s := by
  simp [State.discardLatch, h]

/-- A GO of a command latched with no cue armed is discarded with its report (04, R86, R87). -/
theorem State.discardLatch_command (h : s.ce.latched = some .command) (ha : s.ce.armed = none)
    (hr : s.Reports 1) (w : IgnoreReason) : s.discardLatch w =
      ({ s with ce := { s.ce with latched := none } } : State).posted clsCue repGoIgnored (w32 0)
        (w32 (ignoreCode w)) (w32 0) := by
  have reports : ({ s with ce := { s.ce with latched := none } } : State).Reports 1 := ⟨hr.running, hr.room, hr.unknown⟩
  simp only [State.discardLatch, h]
  rw [State.goIgnored, State.report_posted reports]
  simp only [ha]
  rfl

theorem State.discardLatch_vu (V : Vu) (w : IgnoreReason) :
    ({ s with vu := V } : State).discardLatch w = { s.discardLatch w with vu := V } := by
  cases h : s.ce.latched <;> simp [State.discardLatch, h, State.goIgnored, State.report]

/-! ### What the HOLD flag changes -/

/-- HOLD set: the CUE-owned fades are frozen, and the due samples of queue and follow timer kept as remaining
counts (04, R96). -/
def State.holding (s : State) : State :=
  (({ s with ce := { s.ce with hold := true } } : State).markFrozen true).mapDue (When.freeze s.ck.now)
    (Since.freeze s.ck.now)

/-- HOLD clear: the CUE-owned fades go on, and the remaining counts become due samples again (04, R97). -/
def State.released (s : State) : State :=
  (({ s with ce := { s.ce with hold := false } } : State).markFrozen false).mapDue (When.thaw s.ck.now)
    (Since.thaw s.ck.now)

variable {s}

theorem State.setHold_same {b : Bool} (h : s.ce.hold = b) : s.setHold b = s := by
  subst h
  show s.afterFreeze s.frozen = s
  unfold State.afterFreeze
  cases s.frozen <;> rfl

/-- HOLD begins the freeze condition (04, R96): beside `holding` the latch is discarded and voices change. -/
theorem State.setHold_freezes (h : s.frozen = false) :
    ∃ V, s.setHold true = { s.holding.discardLatch .held with vu := V } := by
  obtain ⟨V, hV⟩ := s.holding.retimeVoices_vu
  have begins : s.setHold true = (s.holding.retimeVoices.discardLatch .held).repause := by
    unfold State.setHold State.afterFreeze
    rw [h]
    rfl
  rw [begins, hV, State.discardLatch_vu]
  exact ⟨_, rfl⟩

/-- No trigger was held back. -/
theorem State.takeHeldBack_none (hf : s.ce.follow ≠ .expired) (hw : s.ce.fire ≠ .waiting) : s.takeHeldBack = s := by
  have hfire : s.fireWaiting = s := by
    unfold State.fireWaiting
    split
    · exact if_neg fun h => hw h.1
    · rfl
  simp [State.takeHeldBack, State.followExpiredNow, hf, hfire]

theorem Follow.mapWhen_expired {f : When → When} {x : Follow} (h : x ≠ .expired) : x.mapWhen f ≠ .expired := by
  cases x <;> simp_all [Follow.mapWhen]

/-- RELEASE ends the freeze condition where the interlock does not hold it, and no trigger is owed (04, R97). -/
theorem State.setHold_thaws (hh : s.ce.hold = true) (hi : s.interlocked = false) (hf : s.ce.follow ≠ .expired)
    (hw : s.ce.fire ≠ .waiting) : ∃ V, s.setHold false = { s.released with vu := V } := by
  have was : s.frozen = true := by simp [State.frozen, hh]
  have now : ({ s with ce := { s.ce with hold := false } } : State).frozen = false := hi
  have ends : s.setHold false = State.freezeEnd { s with ce := { s.ce with hold := false } } := by
    unfold State.setHold State.afterFreeze
    rw [was, now]
  obtain ⟨V, hV⟩ := State.retimeVoices_vu (({ s with ce := { s.ce with hold := false } } : State).mapDue
    (When.thaw s.ck.now) (Since.thaw s.ck.now))
  rw [ends, State.freezeEnd, hV]
  exact ⟨_, State.takeHeldBack_none (Follow.mapWhen_expired hf) hw⟩

end

/-! ### The two commands -/

section
variable {s : State} {r : Link}

/-- A HOLD or RELEASE that changes no more of the memory link than a report does finishes DONE. -/
theorem State.Ready.hold_done (h : s.Ready r) {b : Bool} {i : Instr} (hi : recordLink i = some r)
    (hf : State.runCommand i s = (s.setHold b).finish r .ok) {u : State} {V : Vu}
    (hu : s.setHold b = { u with vu := V }) (hm : s.ml.TakesLike u.ml) (hq : u.notices = []) :
    exec i s = .next (({ u with vu := V } : State).outcome r .ok).granted :=
  h.exec_finish hi (hf.trans (congrArg (fun x : State => x.finish r .ok) hu)) hm hq

/-- A HOLD or RELEASE of the value that the flag has changes nothing. -/
theorem State.Ready.hold_same (h : s.Ready r) {b : Bool} {i : Instr} (hi : recordLink i = some r)
    (hf : State.runCommand i s = (s.setHold b).finish r .ok) (hb : s.ce.hold = b) :
    exec i s = .next (s.outcome r .ok).granted :=
  h.exec_refused hi (hf.trans (congrArg (fun x : State => x.finish r .ok) (State.setHold_same hb)))

/-- Settles O42: HOLD comes to `holding` and RELEASE to `released`, but for the voices and a latched GO. -/
theorem holdFreezesReleaseThaws : Obligations.HoldFreezesReleaseThaws := by
  intro s r h stop go timer
  have hstop : stop = When.freeze s.ck.now := by funext w; cases w <;> rfl
  have hgo : go = When.thaw s.ck.now := by funext w; cases w <;> rfl
  have htimer : timer = Follow.mapWhen := by funext f x; cases x <;> rfl
  rw [hstop, hgo, htimer]
  refine ⟨fun hz hl => ?_, fun hh hi hf hw => ?_, fun hz hl ha hr => ?_, fun hh => ?_, fun hh => ?_⟩
  · obtain ⟨V, hV⟩ := State.setHold_freezes hz
    rw [s.holding.discardLatch_none hl] at hV
    exact ⟨_, h.hold_done rfl rfl hV (.refl _) h.quiet, rfl, rfl, rfl, rfl, rfl, rfl, rfl, rfl, rfl, rfl, rfl, rfl,
      rfl, rfl, rfl, rfl⟩
  · obtain ⟨V, hV⟩ := State.setHold_thaws hh hi hf hw
    exact ⟨_, h.hold_done rfl rfl hV (.refl _) h.quiet, rfl, hi, rfl, rfl, rfl, rfl, rfl, rfl, rfl, rfl, rfl, rfl,
      rfl, rfl, rfl, rfl⟩
  · obtain ⟨V, hV⟩ := State.setHold_freezes hz
    rw [s.holding.discardLatch_command hl ha ⟨hr.running, hr.room, hr.unknown⟩] at hV
    exact ⟨_, h.hold_done rfl rfl hV ⟨rfl, rfl, rfl, rfl⟩ h.quiet, rfl, rfl, rfl, rfl, rfl, rfl, rfl, rfl, rfl, rfl,
      rfl, rfl, rfl, rfl, rfl⟩
  · exact h.hold_same rfl rfl hh
  · exact h.hold_same rfl rfl hh

end

end Sys2Proof.Machine
end

section
/-! PROOFS. Rules of the relay controller: bit sets, zones, holders, ducks and the ON_AIR groups (06, R123–R143). -/

namespace Sys2Proof.Machine

/-! ### Bit sets -/

/-- The number whose bits below `n` are the values of a test on 1..n. -/
def bitSum (p : Nat → Bool) (n : Nat) : Nat :=
  (List.range n).foldl (fun acc i => if p (i + 1) then acc + 2 ^ i else acc) 0

theorem bitSum_succ (p : Nat → Bool) (n : Nat) :
    bitSum p (n + 1) = if p (n + 1) then bitSum p n + 2 ^ n else bitSum p n := by
  simp [bitSum, List.range_succ]

theorem bitSum_lt (p : Nat → Bool) (n : Nat) : bitSum p n < 2 ^ n := by
  induction n with
  | zero => simp [bitSum]
  | succ n ih =>
    rw [bitSum_succ, Nat.pow_succ]
    split <;> omega

theorem testBit_bitSum (p : Nat → Bool) {i n : Nat} (h : i < n) : (bitSum p n).testBit i = p (i + 1) := by
  induction n with
  | zero => omega
  | succ n ih =>
    rw [bitSum_succ]
    by_cases hi : i = n
    · subst hi
      have low : (bitSum p i).testBit i = false := Nat.testBit_lt_two_pow (bitSum_lt p i)
      split
      · rename_i hp
        rw [Nat.add_comm, Nat.testBit_two_pow_add_eq, low, hp]
        rfl
      · rename_i hp
        rw [low]
        simpa using hp
    · have hlt : i < n := by omega
      split
      · rw [Nat.add_comm, Nat.testBit_two_pow_add_gt hlt, ih hlt]
      · exact ih hlt

/-- A bit set from a test holds the numbers that pass it. -/
theorem getLsbD_setOf {w i : Nat} (p : Nat → Bool) (h : i < w) : (setOf w p).getLsbD i = p (i + 1) := by
  show (BitVec.ofNat w (bitSum p w)).getLsbD i = _
  rw [BitVec.getLsbD_ofNat, testBit_bitSum p h]
  simp [h]

theorem setOf_eq {w : Nat} {p : Nat → Bool} {b : BitVec w} (h : ∀ i, i < w → p (i + 1) = b.getLsbD i) :
    setOf w p = b := by
  apply BitVec.eq_of_getLsbD_eq
  intro i hi
  rw [getLsbD_setOf p hi, h i hi]

theorem zoneSet_single {z : Nat} (h : 1 ≤ z) : zoneSet [z] = BitVec.twoPow 32 (z - 1) := by
  refine setOf_eq fun i hi => ?_
  rw [BitVec.getLsbD_twoPow, Bool.eq_iff_iff]
  simp
  omega

/-! ### One zone among the 32 -/

/-- A test that one zone alone passes. -/
theorem filter_oneTo {n z : Nat} {p : Nat → Bool} (h1 : 1 ≤ z) (h2 : z ≤ n)
    (hp : ∀ y, 1 ≤ y → y ≤ n → (p y = true ↔ y = z)) : (oneTo n).filter p = [z] := by
  have hm : z ∈ oneTo n := mem_oneTo.2 ⟨h1, h2⟩
  have same : (oneTo n).filter p = (oneTo n).filter (· = z) := by
    refine List.filter_congr fun y hy => ?_
    obtain ⟨y1, y2⟩ := mem_oneTo.1 hy
    exact Bool.eq_iff_iff.2 ((hp y y1 y2).trans decide_eq_true_iff.symm)
  rw [same, List.filter_eq, List.count_eq_one_of_mem (oneTo_nodup n) hm]
  rfl

section
variable {s t : State}

theorem State.Reports.congr {n : Nat} (h : s.Reports n) (hm : t.ml = s.ml) : t.Reports n :=
  ⟨hm ▸ h.running, hm ▸ h.room, hm ▸ h.unknown⟩

/-- After a report there is room for one less. -/
theorem State.Reports.posted {n : Nat} (h : s.Reports (n + 1)) (cls kind : Nat) (a b c : Word) :
    (s.posted cls kind a b c).Reports n where
  running := h.running
  room := by
    have := h.room
    simp only [State.posted, List.length_append, List.length_singleton]
    omega
  unknown := h.unknown

theorem State.Reports.mono {m n : Nat} (h : s.Reports n) (hm : m ≤ n) : s.Reports m :=
  ⟨h.running, by have := h.room; omega, h.unknown⟩

/-! ### Zones -/

/-- A page that holds one zone, where no other zone has a holder. -/
theorem State.heldZones_single {z id : Nat} (h1 : 1 ≤ z) (h2 : z ≤ 32) (hz : (s.zone z).holder = some id)
    (ho : ∀ y, 1 ≤ y → y ≤ 32 → y ≠ z → (s.zone y).holder = none) : s.heldZones id = [z] := by
  refine filter_oneTo h1 h2 fun y y1 y2 => ?_
  by_cases hy : y = z
  · simp [hy, hz]
  · simp [hy, ho y y1 y2 hy]

/-- A change of one zone that keeps its holder keeps every holder. -/
theorem State.setZone_holder {z : Nat} (h1 : 1 ≤ z) (h2 : z ≤ 32) {x : Zone} (hx : x.holder = (s.zone z).holder)
    (y : Nat) (hy : 1 ≤ y) : ((s.setZone z x).zone y).holder = (s.zone y).holder := by
  by_cases h : z = y
  · subst h
    rw [s.zone_setZone x h1 h2, hx]
  · rw [s.zone_setZone_other x h1 hy h]

/-- With one page in the table, on air and holder of one zone alone, that zone's groups are ON_AIR (06, R143). -/
theorem State.onAirGroups_single {z : Nat} {p : Page} (h1 : 1 ≤ z) (h2 : z ≤ 32) (hz : (s.zone z).holder = some p.id)
    (ho : ∀ y, 1 ≤ y → y ≤ 32 → y ≠ z → (s.zone y).holder = none) (hp : s.rc.pages = [p]) (hst : p.st = .onAir) :
    s.onAirGroups = (s.zone z).groups := by
  have page : s.holderPage (s.zone z) = some p := by simp [State.holderPage, hz, hp]
  unfold State.onAirGroups
  rw [filter_oneTo h1 h2]
  · simp
  · intro y y1 y2
    by_cases hy : y = z
    · subst hy
      simp [page, hst]
    · have none : s.holderPage (s.zone y) = .none := by simp [State.holderPage, ho y y1 y2 hy]
      simp [none, hy]

/-! ### Fades of one target among others -/

theorem fadeOn_withoutFade (l : List Fade) (x : Target) : (withoutFade l x).find? (·.target == x) = none := by
  simp [withoutFade]

theorem find_withoutFade_other (l : List Fade) {x y : Target} (h : x ≠ y) :
    (withoutFade l x).find? (·.target == y) = l.find? (·.target == y) := by
  rw [withoutFade, List.find?_filter]
  congr 1
  funext f
  by_cases hf : f.target = y
  · simp [hf, Ne.symm h]
  · simp [hf]

end

end Sys2Proof.Machine
end

section
/-! PROOFS. FADE_COMPLETE: a fade takes its last step, and a duck fade puts its page on air (01, R18; 06, R134,
R135). -/

namespace Sys2Proof.Machine

section
variable {s : State}

/-! ### The row -/

theorem exec_fadeComplete (s : State) (x : Target) :
    exec (.fadeComplete x) s = .next (s.fadeEnd x).settle.granted := rfl

/-- A fade whose last step falls in the control period now due (01, R18). -/
theorem State.fadeReady_iff (hp : s.ml.part = .running) (hd : s.mx.nextPeriod ≤ s.ck.now) (f : Fade) :
    s.fadeReady f = true ↔ f.frozen = false ∧ f.d ≤ f.k + 1 := by
  simp [State.fadeReady, State.periodDue, State.running, hp, hd]

/-- A fade that is frozen, or has steps to go, is left alone. -/
theorem State.fadeEnd_early {x : Target} {f : Fade} (hf : s.fadeOn x = some f) (hr : s.fadeReady f = false) :
    s.fadeEnd x = s := by
  simp [State.fadeEnd, hf, hr]

/-- A fade without a completion action that takes its last step leaves its target at T, and the table, with a
notice to its owner (01, R18). -/
theorem State.fadeEnd_last {x : Target} {f : Fade} (hf : s.fadeOn x = some f) (hr : s.fadeReady f = true)
    (hm : f.remove = false) : s.fadeEnd x =
      ((s.putLevel x f.t).setFades (withoutFade (s.putLevel x f.t).lv.fades x)).tell (.fade f.owner x .completed) := by
  obtain ⟨-, hx⟩ := State.fadeOn_mem hf
  subst hx
  simp [State.fadeEnd, hf, hr, State.completeFade, hm, State.completion]

theorem State.settleN_quiet (h : s.notices = []) (n : Nat) : State.settleN n s = s := by
  cases n <;> simp [State.settleN, h]

theorem State.settleN_cons {x : Notice} {rest : List Notice} (h : s.notices = x :: rest) (n : Nat) :
    State.settleN (n + 1) s = State.settleN n (({ s with notices := rest } : State).notice x) := by
  simp only [State.settleN, h]

/-- One notice, which raises no other. -/
theorem State.settle_one {n : Notice} (hq : s.notices = []) (h : (s.notice n).notices = []) :
    (s.tell n).settle = s.notice n := by
  have alone : (s.tell n).notices = [n] := by simp [hq]
  have drop : ({ s.tell n with notices := [] } : State) = s := by
    cases s
    cases hq
    rfl
  rw [State.settle, State.settleN_cons alone 8191, drop, State.settleN_quiet h]

/-! ### A page leaves ATTACK -/

/-- The record of a LIVE page that goes on air now (06, R135). -/
def State.aired (s : State) (p : Page) : Page :=
  { p with st := .onAir, gate := true, lengthExpiry := some (s.lengthEnd p) }

/-- A LIVE page without a voice goes on air: its record, PAGE_ON_AIR and the ON_AIR groups (06, R135, R143). -/
theorem State.goOnAir_live {p : Page} (hv : p.voice = none) (hr : s.Reports 1) :
    s.goOnAir p = ((s.setPage (s.aired p)).posted clsPage repPageOnAir (w32 p.id) (zoneSet (s.heldZones p.id))
      (w32 p.priority)).handOnAir := by
  have posted := State.report_posted (s := s.setPage (s.aired p)) (hr.congr rfl) clsPage repPageOnAir (w32 p.id)
    (zoneSet (s.heldZones p.id)) (w32 p.priority)
  unfold State.goOnAir
  split
  · rename_i v h
    rw [hv] at h
    cases h
  · rw [← posted]
    exact congrArg (fun b => State.handOnAir (State.report _ _ _ _ b _)) (BitVec.setWidth_eq _)

theorem State.tryLeaveAttack_leaves {p : Page} (hp : s.page p.id = some p) (hst : p.st = .attack) {zs : List Nat}
    (hz : s.heldZones p.id = zs) (hd : ∀ z ∈ zs, (s.zone z).duckFade ≠ .attack) :
    s.tryLeaveAttack p.id = s.goOnAir p := by
  simp only [State.tryLeaveAttack, hp]
  refine if_pos ⟨hst, ?_⟩
  simpa [hz] using hd

theorem State.page_single {p : Page} (h : s.rc.pages = [p]) : s.page p.id = some p := by simp [State.page, h]

/-- While a zone that it holds ducks, the page stays in ATTACK (06, R134). -/
theorem State.tryLeaveAttack_waits {p : Page} (hp : s.page p.id = some p) {z : Nat} (h1 : 1 ≤ z) (h2 : z ≤ 32)
    (hz : (s.zone z).holder = some p.id) (hd : (s.zone z).duckFade = .attack) : s.tryLeaveAttack p.id = s := by
  have held : z ∈ s.heldZones p.id := List.mem_filter.2 ⟨mem_oneTo.2 ⟨h1, h2⟩, beq_iff_eq.2 hz⟩
  simp only [State.tryLeaveAttack, hp]
  refine if_neg fun h => ?_
  have none : ∀ y ∈ s.heldZones p.id, ¬ (s.zone y).duckFade = .attack := by simpa using h.2
  exact none z held hd

/-- The only page, which holds one zone alone, leaves ATTACK once that zone ducks no more. -/
theorem State.tryLeaveAttack_onAir {z : Nat} {p : Page} (h1 : 1 ≤ z) (h2 : z ≤ 32)
    (hz : (s.zone z).holder = some p.id) (ho : ∀ y, 1 ≤ y → y ≤ 32 → y ≠ z → (s.zone y).holder = none)
    (hp : s.rc.pages = [p]) (hst : p.st = .attack) (hv : p.voice = none) (hd : (s.zone z).duckFade ≠ .attack)
    (hr : s.Reports 1) :
    s.tryLeaveAttack p.id =
      { s.posted clsPage repPageOnAir (w32 p.id) (BitVec.twoPow 32 (z - 1)) (w32 p.priority) with
        rc := { s.rc with
          pages := [s.aired p],
          onAir := (s.zone z).groups } } := by
  have page := State.page_single hp
  have held := State.heldZones_single h1 h2 hz ho
  have pages : (s.setPage (s.aired p)).rc.pages = [s.aired p] := by simp [State.setPage, hp, State.aired]
  have groups := State.onAirGroups_single (s := s.setPage (s.aired p)) (p := s.aired p) h1 h2 hz ho pages rfl
  rw [State.tryLeaveAttack_leaves page hst held (by simpa using hd), State.goOnAir_live hv hr, held,
    zoneSet_single h1]
  show State.mk _ _ _ _ _ _ _ _ _ (Rc.mk _ (s.setPage _).rc.pages _ _ _ (State.onAirGroups (s.setPage _))) _ _ _ = _
  rw [pages, groups]
  rfl

/-- The completion of the duck fade of the one zone that the only page holds puts that page on air (06, R134). -/
theorem State.duckNotice_onAir {z : Nat} {p : Page} (h1 : 1 ≤ z) (h2 : z ≤ 32) (hn : s.fadeOn (.duck z) = none)
    (ha : (s.zone z).duckFade = .attack) (hz : (s.zone z).holder = some p.id)
    (ho : ∀ y, 1 ≤ y → y ≤ 32 → y ≠ z → (s.zone y).holder = none) (hp : s.rc.pages = [p]) (hst : p.st = .attack)
    (hv : p.voice = none) (hr : s.Reports 1) :
    s.duckNotice z .completed =
      { s.posted clsPage repPageOnAir (w32 p.id) (BitVec.twoPow 32 (z - 1)) (w32 p.priority) with
        rc := { (s.setDuckFade z .none).rc with pages := [s.aired p], onAir := (s.zone z).groups } } := by
  have act : s.duckNotice z .completed = (s.setDuckFade z .none).tryLeaveAttack p.id := by
    simp [State.duckNotice, hn, ha, hz]
  have zone : (s.setDuckFade z .none).zone z = { s.zone z with duckFade := .none } := s.zone_setZone _ h1 h2
  have holder : ∀ y, 1 ≤ y → ((s.setDuckFade z .none).zone y).holder = (s.zone y).holder :=
    s.setZone_holder h1 h2 rfl
  rw [act, State.tryLeaveAttack_onAir h1 h2 ((holder z h1).trans hz)
    (fun y y1 y2 hy => (holder y y1).trans (ho y y1 y2 hy)) hp hst hv (by simp [zone]) (hr.congr rfl), zone]
  rfl

end

/-- Settles O14: the last step of a fade, and for a duck fade the notice that lets its page leave ATTACK. -/
theorem fadeCompletesAtTarget : Obligations.FadeCompletesAtTarget := by
  refine ⟨fun s c f hp hq hd hf ho hm => ⟨fun hz hk => ?_, fun hz => ?_⟩,
    fun s z f p hp hq hd h1 h2 hf ho hm hz hk ha hh hn hpg hst _ hv hr => ?_⟩
  · have ready := (State.fadeReady_iff hp hd f).2 ⟨hz, hk⟩
    rw [exec_fadeComplete, State.fadeEnd_last hf ready hm, ho, State.settle_tellHost (by exact hq)]
    rfl
  · have early : s.fadeReady f = false := by
      rw [← Bool.not_eq_true, State.fadeReady_iff hp hd]
      rintro ⟨hz', hk'⟩
      rcases hz with hz | hz
      · exact absurd (hz'.symm.trans hz) (by decide)
      · omega
    rw [exec_fadeComplete, State.fadeEnd_early hf early, State.settle_quiet hq]
  · have ready := (State.fadeReady_iff hp hd f).2 ⟨hz, hk⟩
    have ended := State.fadeEnd_last hf ready hm
    rw [ho] at ended
    have aired := State.duckNotice_onAir
      (s := (s.putLevel (.duck z) f.t).setFades (withoutFade (s.putLevel (.duck z) f.t).lv.fades (.duck z)))
      h1 h2 (fadeOn_withoutFade _ _) ha hh hn hpg hst hv (hr.congr rfl)
    have notice := State.settle_one (n := .fade (.relay z) (.duck z) .completed)
      (s := (s.putLevel (.duck z) f.t).setFades (withoutFade (s.putLevel (.duck z) f.t).lv.fades (.duck z))) hq
      ((congrArg State.notices aired).trans hq)
    have zone := s.zone_setZone { s.zone z with duckFade := .none } h1 h2
    have run := exec_fadeComplete s (.duck z)
    rw [ended, notice.trans aired] at run
    exact ⟨_, s.aired p, run, rfl, rfl, rfl, zone, rfl, rfl, rfl⟩

end Sys2Proof.Machine
end

section
/-! PROOFS. START_PAGE: a LIVE page for one free zone is granted (06, R127–R135, R147). -/

namespace Sys2Proof.Machine

/-! ### The record of the page -/

/-- A page record that asks LIVE for zone `z` alone, by P1, without a chime, with every field in its range. -/
structure AsksLive (p : PageField) (z : Nat) : Prop where
  first : 1 ≤ z
  last : z ≤ 32
  priority : p.priority ≤ 3
  mode : p.mode = 0
  source : p.source = 0
  mic : p.mic = 1
  chime : p.chime = 0
  id : p.id < 0xFF00
  zones : p.zones = BitVec.twoPow 32 (z - 1)
  groups : p.groups = 0
  wait : p.waitLimit ≤ 600000
  limit : 1 ≤ p.liveLimit ∧ p.liveLimit ≤ 600

/-- The page that such a record is read as (06, R127). -/
def livePage (p : PageField) : Page where
  id := p.id
  priority := p.priority
  partialMode := false
  ownZones := p.zones
  groups := 0
  zones := p.zones
  live := true
  mic := 1
  waitLimit := some p.waitLimit
  liveLimit := p.liveLimit
  recording := none
  chime := none
  st := .waiting
  arrival := 0
  voice := none
  gate := false
  gateAtStart := false
  waitExpiry := none
  lengthExpiry := none
  audio := silence

/-- A page with an arrival number and a wait expiry. -/
def Page.arrived (q : Page) (n : Nat) (e : Option Nat) : Page := { q with arrival := n, waitExpiry := e }

/-- A page as a grant leaves it, before its ducks (06, R132). -/
def Page.inAttack (q : Page) : Page := { q with st := .attack, voice := none, waitExpiry := none, gate := false }

section
variable {s : State} {p : PageField} {z : Nat}

theorem inSet_twoPow (h : 1 ≤ z) {y : Nat} (h1 : 1 ≤ y) (h2 : y ≤ 32) :
    inSet (BitVec.twoPow 32 (z - 1)) y = true ↔ y = z := by
  simp [inSet, BitVec.getLsbD_twoPow]
  omega

theorem State.requested_zones (s : State) (b : BitVec 32) : s.requested b 0 = b := by
  refine setOf_eq fun i _ => ?_
  simp [inSet]

theorem AsksLive.zones_ne_zero (h : AsksLive p z) : p.zones ≠ 0 := by
  intro h0
  have bit := (inSet_twoPow h.first h.first h.last).2 rfl
  rw [← h.zones, h0] at bit
  simp [inSet] at bit

theorem AsksLive.readPage (h : AsksLive p z) (s : State) : s.readPage p = .ok (livePage p, false) := by
  have range : ¬ (p.priority > 3 ∨ p.mode > 1 ∨ p.source > 1 ∨ (True ∧ ¬ (p.mic = 1 ∨ p.mic = 2)) ∨ p.chime > 1 ∨
      buttonId p.id = true) := by
    have := h.priority
    have := h.id
    simp [h.mode, h.source, h.mic, h.chime, buttonId]
    omega
  have wait : min p.waitLimit 600000 = p.waitLimit := min_eq_left h.wait
  have limit : max 1 (min p.liveLimit 600) = p.liveLimit := by rw [min_eq_left h.limit.2, max_eq_right h.limit.1]
  have live : (p.source == 0) = true := by simp [h.source]
  have chime : (p.chime == 1) = false := by simp [h.chime]
  have mode : (p.mode == 1) = false := by simp [h.mode]
  unfold State.readPage
  simp only [live, chime, mode, wantDesc, Bool.not_true, Bool.false_eq_true, if_false, wait, limit, h.groups,
    s.requested_zones, if_neg h.zones_ne_zero, if_true, bne_self_eq_false, Bool.or_false]
  rw [if_neg range, h.mic]
  rfl

/-! ### The scan -/

theorem State.scan_single {q : Page} (hp : s.rc.pages = [q]) (hw : q.st = .waiting)
    (hg : s.grantable q 0 = true) : s.scan = s.grant q 0 := by
  have page := State.page_single hp
  have order : ((s.rc.pages.filter (·.st == .waiting)).foldl (fun l p => insertWaiting p l) []).map (·.id) =
      [q.id] := by simp [hp, hw, insertWaiting]
  have examined : State.examine (s, 0) q.id = (s.grant q 0, 0) := by
    simp only [State.examine, page, hw, ne_eq, not_true_eq_false, if_false]
    exact if_pos hg
  unfold State.scan
  simp only [order, List.foldl_cons, List.foldl_nil, examined]

/-- A zone without a holder is available to a page that asks for it and finds it unclaimed (06, R131). -/
theorem State.zoneAvailable_free {q : Page} {y : Nat} (hy : (s.zone y).holder = none) :
    s.zoneAvailable q 0 y = inSet q.zones y := by
  simp [State.zoneAvailable, hy, inSet]

theorem State.grantable_free {q : Page} (hz : ∀ y, 1 ≤ y → y ≤ 32 → (s.zone y).holder = none)
    (hp : q.partialMode = false) (hl : q.live = true) (hc : q.chime = none) (hm : s.micFree q.mic = true) :
    s.grantable q 0 = true := by
  have all : ((oneTo 32).filter (inSet q.zones)).all (s.zoneAvailable q 0) = true := by
    rw [List.all_eq_true]
    intro y hy
    obtain ⟨hy, hin⟩ := List.mem_filter.1 hy
    obtain ⟨h1, h2⟩ := mem_oneTo.1 hy
    rw [State.zoneAvailable_free (hz y h1 h2), hin]
  simp only [State.grantable, hp, Page.needsVoice, hl, hc, hm, all]
  rfl

/-! ### The grant -/

/-- `s` with zone `z`, which no page holds, and its microphone granted to `q`, the only page: what a grant leaves
before the zone ducks (06, R132). -/
def State.grantedTo (s : State) (z : Nat) (q : Page) : State :=
  { s.posted clsPage repPageGranted (w32 q.id) (BitVec.twoPow 32 (z - 1)) (w32 0) with
    rc := { (s.setHolder z (some q.id)).rc with
      pages := [q.inAttack], mics := tset s.rc.mics (q.mic - 1) (some q.id) } }

theorem State.grant_free {q : Page} (h1 : 1 ≤ z) (h2 : z ≤ 32)
    (hz : ∀ y, 1 ≤ y → y ≤ 32 → (s.zone y).holder = none) (hq : q.zones = BitVec.twoPow 32 (z - 1))
    (hl : q.live = true) (hc : q.chime = none) (hp : s.rc.pages = [q]) (hr : s.Reports 1) :
    s.grant q 0 = ((s.grantedTo z q).duckZone z).tryLeaveAttack q.id := by
  have zones : (oneTo 32).filter (s.zoneAvailable q 0) = [z] := by
    refine filter_oneTo h1 h2 fun y y1 y2 => ?_
    rw [State.zoneAvailable_free (hz y y1 y2), hq, inSet_twoPow h1 y1 y2]
  have none : (s.zone z).holder = none := hz z h1 h2
  have voice : ∀ t : State, t.takeVoice q = (t, .none) := by simp [State.takeVoice, Page.needsVoice, hl, hc]
  have posted := State.report_posted
    (s := ((s.setHolder z (some q.id)).setMic q.mic (some q.id)).setPage q.inAttack) (hr.congr rfl) clsPage
    repPageGranted (w32 q.id) (BitVec.twoPow 32 (z - 1)) (w32 0)
  have pages : (s.setPage q.inAttack).rc.pages = [q.inAttack] := by simp [State.setPage, hp, Page.inAttack]
  have after : (((s.setHolder z (some q.id)).setMic q.mic (some q.id)).setPage q.inAttack).posted clsPage
      repPageGranted (w32 q.id) (BitVec.twoPow 32 (z - 1)) (w32 0) = s.grantedTo z q := by
    show State.mk _ _ _ _ _ _ _ _ _ (Rc.mk _ (s.setPage q.inAttack).rc.pages _ _ _ _) _ _ _ = _
    rw [pages]
    rfl
  rw [← after, ← posted]
  unfold State.grant
  simp only [zones, none, voice, List.filterMap_cons, List.filterMap_nil, List.eraseDups_nil, List.foldl_cons,
    List.foldl_nil, zoneSet_single h1, BitVec.setWidth_eq]
  rw [if_pos hl]
  rfl

end

end Sys2Proof.Machine
end

section
/-! PROOFS. START_PAGE, second part: the zone ducks, the page goes on air or stands in ATTACK, and the refusals
(06, R129, R133–R135, R147). -/

namespace Sys2Proof.Machine

section
variable {s : State} {z : Nat}

/-! ### Ducking a zone -/

/-- A zone that ducks at once: the DUCK stands at its depth, or programme is disabled, and no holder changes. -/
theorem State.duckZone_atOnce (h1 : 1 ≤ z) (h2 : z ≤ 32) (hn : s.fadeOn (.duck z) = none)
    (hd : (s.zone z).duckFade ≠ .attack)
    (h : (s.zone z).programme = false ∨ s.levelOf (.duck z) = (s.zone z).depth ∨ (s.zone z).attack = 0) :
    ∃ D Z, s.duckZone z = { s with lv := { s.lv with duck := D }, rc := { s.rc with zones := Z } } ∧
      (∀ y, 1 ≤ y → (tget Z (y - 1) Zone.reset).holder = (s.zone y).holder) ∧
      (tget Z (z - 1) Zone.reset).duckFade ≠ .attack ∧
      tget D (z - 1) 0 = if (s.zone z).programme then (s.zone z).depth else s.levelOf (.duck z) := by
  cases hp : (s.zone z).programme with
  | false => exact ⟨s.lv.duck, s.rc.zones, by simp [State.duckZone, hp], fun _ _ => rfl, hd, rfl⟩
  | true =>
    have sets : s.duckZone z = ((s.putLevel (.duck z) (s.zone z).depth).revive (.duck z)).setDuckFade z .none := by
      have now := h.resolve_left (by simp [hp])
      simp only [State.duckZone, hp, Bool.not_true, Bool.false_eq_true, if_false, if_pos now,
        State.setInstant_none hn]
    have zone : (s.setDuckFade z .none).zone z = { s.zone z with duckFade := .none } := s.zone_setZone _ h1 h2
    refine ⟨_, _, sets, fun y hy => s.setZone_holder h1 h2 (x := { s.zone z with duckFade := .none }) rfl y hy, ?_,
      tget_tset_same _ _ _ (by omega)⟩
    have none : ((s.setDuckFade z .none).zone z).duckFade = .none := congrArg Zone.duckFade zone
    exact fun attack => absurd (none.symm.trans attack) (by decide)

/-- The attack fade of a zone: to its depth, over its attack time, owned by the relay (06, R133). -/
def State.attackFade (s : State) (z : Nat) : Fade :=
  ⟨.duck z, .relay z, s.levelOf (.duck z), (s.zone z).depth, fadePeriods s.ck.rate (s.zone z).attack, 0, .linear,
    false, false⟩

/-- A zone whose DUCK has a way to go, and time for it, ducks by an attack fade of the relay (06, R133). -/
theorem State.duckZone_fades (hn : s.fadeOn (.duck z) = none) (hr : s.lv.fades.length < 1024)
    (hp : (s.zone z).programme = true) (hl : s.levelOf (.duck z) ≠ (s.zone z).depth) (ha : (s.zone z).attack ≠ 0) :
    s.duckZone z = (s.setFades (s.lv.fades ++ [s.attackFade z])).setDuckFade z .attack := by
  have wait : ¬ (s.levelOf (.duck z) = (s.zone z).depth ∨ (s.zone z).attack = 0) := fun h => h.elim hl ha
  simp only [State.duckZone, hp, Bool.not_true, Bool.false_eq_true, if_false, if_neg wait,
    State.fadeTo_enters hn hr, State.afterDuck]
  rw [if_pos]
  · rfl
  · show ((s.lv.fades ++ [_]).find? _).isSome = true
    simp

/-! ### After the grant -/

/-- `s` with a page that joins the table with its arrival number (06, R129). -/
def State.joined (s : State) (q : Page) : State :=
  { s with rc := { s.rc with arrival := q.arrival, pages := s.rc.pages ++ [q] } }

theorem Ml.TakesLike.posted {m : Ml} (h : m.TakesLike s.ml) (cls kind : Nat) (a b c : Word) :
    m.TakesLike (s.posted cls kind a b c).ml := ⟨h.windows, h.inflight, h.reader, h.lookOwed⟩

section
variable {q : Page}

theorem State.grantedTo_zone (h1 : 1 ≤ z) (h2 : z ≤ 32) :
    (s.grantedTo z q).zone z = { s.zone z with holder := some q.id } := s.zone_setZone _ h1 h2

theorem State.grantedTo_zone_other (h1 : 1 ≤ z) {y : Nat} (hy : 1 ≤ y) (h : y ≠ z) :
    (s.grantedTo z q).zone y = s.zone y := s.zone_setZone_other _ h1 hy (Ne.symm h)

/-- The relay controller after the grant of zone `z` to `q`, the only page: the zone and the microphone are the
page's, and no other zone has a holder. -/
structure Rc.Grants (c : Rc) (mics : Vector (Option Nat) 2) (z : Nat) (q u : Page) : Prop where
  pages : c.pages = [u]
  holder : (tget c.zones (z - 1) Zone.reset).holder = some q.id
  others : ∀ y, 1 ≤ y → y ≤ 32 → y ≠ z → (tget c.zones (y - 1) Zone.reset).holder = none
  mics : c.mics = tset mics (q.mic - 1) (some q.id)

/-- After the grant of a zone that ducks at once the page is on air (06, R134, R135). -/
theorem State.granted_onAir (h1 : 1 ≤ z) (h2 : z ≤ 32) (hz : ∀ y, 1 ≤ y → y ≤ 32 → (s.zone y).holder = none)
    (hr : s.Reports 2) (hn : s.fadeOn (.duck z) = none) (hd : (s.zone z).duckFade ≠ .attack)
    (h : (s.zone z).programme = false ∨ s.levelOf (.duck z) = (s.zone z).depth ∨ (s.zone z).attack = 0) :
    ∃ D R, (((s.joined q).grantedTo z q).duckZone z).tryLeaveAttack q.id =
        { s with
          ml := ((s.posted clsPage repPageGranted (w32 q.id) (BitVec.twoPow 32 (z - 1)) (w32 0)).posted clsPage
            repPageOnAir (w32 q.id) (BitVec.twoPow 32 (z - 1)) (w32 q.priority)).ml
          lv := { s.lv with duck := D }
          rc := R } ∧
      R.Grants s.rc.mics z q (s.aired q.inAttack) ∧ R.onAir = (tget R.zones (z - 1) Zone.reset).groups ∧
      tget D (z - 1) 0 = if (s.zone z).programme then (s.zone z).depth else s.levelOf (.duck z) := by
  have zone := State.grantedTo_zone (s := s.joined q) (q := q) h1 h2
  obtain ⟨D, Z, ducked, holders, calm, level⟩ :=
    State.duckZone_atOnce (s := (s.joined q).grantedTo z q) h1 h2 hn (by rw [zone]; exact hd) (by rw [zone]; exact h)
  have held : (tget Z (z - 1) Zone.reset).holder = some q.id := (holders z h1).trans (by rw [zone])
  have others : ∀ y, 1 ≤ y → y ≤ 32 → y ≠ z → (tget Z (y - 1) Zone.reset).holder = none := fun y y1 y2 hy =>
    (holders y y1).trans ((congrArg Zone.holder (State.grantedTo_zone_other h1 y1 hy)).trans (hz y y1 y2))
  rw [zone] at level
  have air := State.tryLeaveAttack_onAir (p := q.inAttack) (s := { (s.joined q).grantedTo z q with
    lv := { s.lv with duck := D }, rc := { ((s.joined q).grantedTo z q).rc with zones := Z } }) h1 h2 held others rfl
    rfl rfl calm ((hr.posted _ _ _ _ _).congr rfl)
  exact ⟨D, _, (congrArg (fun t : State => t.tryLeaveAttack q.id) ducked).trans air, ⟨rfl, held, others, rfl⟩, rfl,
    level⟩

/-- After the grant of a zone that ducks by a fade the page stands in ATTACK (06, R133, R134). -/
theorem State.granted_inAttack (h1 : 1 ≤ z) (h2 : z ≤ 32) (hz : ∀ y, 1 ≤ y → y ≤ 32 → (s.zone y).holder = none)
    (hn : s.fadeOn (.duck z) = none) (hr : s.lv.fades.length < 1024) (hp : (s.zone z).programme = true)
    (hl : s.levelOf (.duck z) ≠ (s.zone z).depth) (ha : (s.zone z).attack ≠ 0) :
    ∃ R, (((s.joined q).grantedTo z q).duckZone z).tryLeaveAttack q.id =
        { s with
          ml := (s.posted clsPage repPageGranted (w32 q.id) (BitVec.twoPow 32 (z - 1)) (w32 0)).ml
          lv := { s.lv with fades := s.lv.fades ++ [s.attackFade z] }
          rc := R } ∧
      R.Grants s.rc.mics z q q.inAttack ∧ R.onAir = s.rc.onAir ∧
      tget R.zones (z - 1) Zone.reset = { s.zone z with holder := some q.id, duckFade := .attack } := by
  have zone := State.grantedTo_zone (s := s.joined q) (q := q) h1 h2
  have entry : ((s.joined q).grantedTo z q).attackFade z = s.attackFade z := by
    unfold State.attackFade
    rw [zone]
    rfl
  have ducked := State.duckZone_fades (s := (s.joined q).grantedTo z q) hn hr (by rw [zone]; exact hp)
    (by rw [zone]; exact hl) (by rw [zone]; exact ha)
  rw [entry] at ducked
  have fading : ((((s.joined q).grantedTo z q).setFades (s.lv.fades ++ [s.attackFade z])).setDuckFade z .attack).zone
      z = { s.zone z with holder := some q.id, duckFade := .attack } :=
    (State.zone_setZone _ _ h1 h2).trans (congrArg (fun x : Zone => { x with duckFade := .attack }) zone)
  have others : ∀ y, 1 ≤ y → y ≤ 32 → y ≠ z →
      (((((s.joined q).grantedTo z q).setFades (s.lv.fades ++ [s.attackFade z])).setDuckFade z .attack).zone
        y).holder = none := fun y y1 y2 hy =>
    (congrArg Zone.holder ((State.zone_setZone_other _ _ h1 y1 (Ne.symm hy)).trans
      (State.grantedTo_zone_other h1 y1 hy))).trans (hz y y1 y2)
  have waits := State.tryLeaveAttack_waits (p := q.inAttack) (State.page_single (p := q.inAttack) rfl) h1 h2
    (congrArg Zone.holder fading) (congrArg Zone.duckFade fading)
  exact ⟨_, (congrArg (fun t : State => t.tryLeaveAttack q.id) ducked).trans waits,
    ⟨rfl, congrArg Zone.holder fading, others, rfl⟩, rfl, fading⟩

theorem Rc.Grants.micFree {c : Rc} {m : Vector (Option Nat) 2} {u : Page} (h : c.Grants m z q u) (h1 : 1 ≤ q.mic)
    (h2 : q.mic ≤ 2) : (tget c.mics (q.mic - 1) none).isNone = false := by
  rw [h.mics, tget_tset_same _ _ _ (by omega)]
  rfl

end

/-! ### The request -/

/-- A page that is not refused at once joins the table with the next arrival number; if the scan takes it out of
WAITING, it is not refused at all (06, R129). -/
theorem State.takePage_enters {q : Page} (hi : s.interlocked = false) (hd : s.page q.id = none)
    (hr : s.rc.pages.length < 16) :
    ∃ n e, ∀ t u, (s.joined (q.arrived n e)).scan = t →
      t.page q.id = some u → u.st ≠ .waiting → s.takePage q = (t, none) := by
  have free : ¬ (s.interlocked = true ∧ q.priority < 3) := by simp [hi]
  have new : ¬ (s.page q.id).isSome = true := by simp [hd]
  have room : ¬ s.rc.pages.length ≥ Config.pageCapacity := Nat.not_le.2 hr
  refine ⟨(s.rc.arrival + 1) % 2 ^ 32, match q.waitLimit with
    | some (k + 1) => some (s.ck.now + delaySamples s.ck.rate (k + 1))
    | _ => none, fun t u ht hu hw => ?_⟩
  cases ht
  unfold State.takePage
  rw [if_neg free, if_neg new, if_neg room]
  simp only
  split
  · rename_i v _ hv _
    cases Option.some.inj (hv.symm.trans hu)
    exact if_neg hw
  · rfl

theorem State.startPage_taken {p : PageField} {q : Page} {t : State} {k : Bool} (hq : s.readPage p = .ok (q, k))
    (ht : s.takePage q = (t, none)) (r : Link) : s.startPage r p = t.finish r .ok .none k := by
  simp [State.startPage, State.requestPage, hq, ht]

theorem State.startPage_refused {p : PageField} {q : Page} {e : PageRefusal} {k : Bool}
    (hq : s.readPage p = .ok (q, k)) (ht : s.takePage q = (s, some e)) (r : Link) :
    s.startPage r p = s.finish r (refusalFail e).res (refusalFail e).why k := by
  simp [State.startPage, State.requestPage, hq, ht]

theorem State.takePage_duplicate {q u : Page} (hi : s.interlocked = false) (hd : s.page q.id = some u) :
    s.takePage q = (s, some .duplicate) := by
  simp [State.takePage, hi, hd]

theorem State.takePage_interlock {q : Page} (hi : s.interlocked = true) (hp : q.priority < 3) :
    s.takePage q = (s, some .interlock) := by
  simp [State.takePage, hi, hp]

/-- A LIVE page for one zone, of an empty table where no zone has a holder, comes to its grant. -/
theorem AsksLive.startPage {p : PageField} (h : AsksLive p z) (hp : s.rc.pages = []) (hi : s.interlocked = false)
    (hz : ∀ y, 1 ≤ y → y ≤ 32 → (s.zone y).holder = none) (hm : s.micFree 1 = true) (hr : s.Reports 1) :
    ∃ n e, let q := (livePage p).arrived n e
      ∀ t u, (((s.joined q).grantedTo z q).duckZone z).tryLeaveAttack p.id = t →
        t.rc.pages = [u] → u.id = p.id → u.st ≠ .waiting → ∀ r, s.startPage r p = t.finish r .ok := by
  obtain ⟨n, e, enters⟩ := State.takePage_enters (q := livePage p) hi (by simp [State.page, hp]) (by simp [hp])
  refine ⟨n, e, fun t u ht hu hid hw r => State.startPage_taken (h.readPage s) (enters t u ?_ ?_ hw) r⟩
  · have alone : (s.joined ((livePage p).arrived n e)).rc.pages = [(livePage p).arrived n e] := by
      simp [State.joined, hp]
    have grantable := State.grantable_free (s := s.joined ((livePage p).arrived n e))
      (q := (livePage p).arrived n e) hz rfl rfl rfl hm
    rw [State.scan_single alone rfl grantable,
      State.grant_free (s := s.joined ((livePage p).arrived n e)) h.first h.last hz h.zones rfl rfl alone
        (hr.congr rfl)]
    exact ht
  · exact (congrArg t.page hid).symm.trans (State.page_single hu)

end

/-- Settles O48: the page is read, scanned for and granted; its zone ducks at once, or by a fade. -/
theorem startPageGrantsALivePage : Obligations.StartPageGrantsALivePage := by
  intro s r z p h h1 h2 prio mode source mic chime id zones groups wait limit1 limit2
  have asks : AsksLive p z := ⟨h1, h2, prio, mode, source, mic, chime, id, zones, groups, wait, limit1, limit2⟩
  refine ⟨fun hp hi hz hm hr hn hd => ⟨fun ducks => ?_, fun hpr hl ha room => ?_⟩, fun q hq hi => ?_, fun hi hlow => ?_⟩
  · obtain ⟨n, e, start⟩ := asks.startPage hp hi hz hm (hr.mono (by omega))
    obtain ⟨D, R, onAir, grants, groups, level⟩ :=
      State.granted_onAir (s := s) (q := (livePage p).arrived n e) h1 h2 hz hr hn hd ducks
    have run := h.exec_finish (i := .startPage r p) rfl (start _ _ onAir grants.pages rfl nofun r)
      (((Ml.TakesLike.refl s.ml).posted _ _ _ _ _).posted _ _ _ _ _) h.quiet
    have handed := State.onAirGroups_single (s := { s with rc := R }) (p := s.aired ((livePage p).arrived n e).inAttack)
      h1 h2 grants.holder grants.others grants.pages rfl
    rw [zones]
    exact ⟨_, _, run, grants.pages, rfl, rfl, rfl, rfl, rfl, grants.holder, grants.micFree le_rfl (by decide : 1 ≤ 2),
      groups.trans handed.symm, level, rfl, rfl, rfl, rfl, rfl, rfl, rfl, rfl, rfl⟩
  · obtain ⟨n, e, start⟩ := asks.startPage hp hi hz hm (hr.mono (by omega))
    obtain ⟨R, waits, grants, groups, fading⟩ :=
      State.granted_inAttack (s := s) (q := (livePage p).arrived n e) h1 h2 hz hn room hpr hl ha
    have run := h.exec_finish (i := .startPage r p) rfl (start _ _ waits grants.pages rfl nofun r)
      ((Ml.TakesLike.refl s.ml).posted _ _ _ _ _) h.quiet
    rw [zones]
    exact ⟨_, _, run, grants.pages, rfl, rfl, rfl, rfl, rfl, fading, grants.micFree le_rfl (by decide : 1 ≤ 2), groups,
      rfl, rfl, rfl, rfl, rfl, rfl, rfl, rfl, rfl⟩
  · exact h.exec_refused rfl (State.startPage_refused (asks.readPage s) (State.takePage_duplicate hi hq) r)
  · exact h.exec_refused rfl (State.startPage_refused (asks.readPage s) (State.takePage_interlock hi hlow) r)

end Sys2Proof.Machine
end

section
/-! PROOFS. Pages that expire: WAIT_EXPIRY and LENGTH_EXPIRY, and the release of the zones they held (06, R137–R139). -/

namespace Sys2Proof.Machine

section
variable {s t u : State}

/-! ### Notices on which no block acts -/

/-- Notices that leave the state alone, whatever notices stand, are only taken away. -/
theorem State.settle_idle (hl : s.notices.length ≤ 8192)
    (h : ∀ n ∈ s.notices, ∀ l, ({ s with notices := l } : State).notice n = { s with notices := l }) :
    s.settle = { s with notices := [] } := by
  have go : ∀ (l : List Notice) (k : Nat), l.length ≤ k → (∀ n ∈ l, n ∈ s.notices) →
      State.settleN k { s with notices := l } = { s with notices := [] } := by
    intro l
    induction l with
    | nil => exact fun k _ _ => State.settleN_quiet rfl k
    | cons n rest ih =>
      intro k hk hm
      obtain ⟨k, rfl⟩ : ∃ m, k = m + 1 := ⟨k - 1, by simp at hk; omega⟩
      rw [State.settleN_cons rfl, h n (hm n (by simp)) rest]
      exact ih k (by simpa using hk) fun x hx => hm x (by simp [hx])
  exact go s.notices 8192 hl fun _ hn => hn

theorem State.scan_empty (h : s.rc.pages = []) : s.scan = s := by
  simp [State.scan, h]

/-! ### What the release of zones leaves -/

/-- The duck of zone `z` as the relay sees it is the same in `s` and `t`. -/
structure DuckKept (s t : State) (z : Nat) : Prop where
  zone : t.zone z = s.zone z
  level : t.levelOf (.duck z) = s.levelOf (.duck z)
  fade : t.fadeOn (.duck z) = s.fadeOn (.duck z)

/-- The release fade of a zone: to 0, over its release time, owned by the relay (06, R138). -/
def State.releaseFade (s : State) (z : Nat) : Fade :=
  ⟨.duck z, .relay z, s.levelOf (.duck z), 0, fadePeriods s.ck.rate (s.zone z).release, 0, .linear, false, false⟩

/-- Zone `z` has no holder in `t`, and its DUCK, as it was in `s`, returns to 0 (06, R138). -/
structure DuckFreed (s t : State) (z : Nat) : Prop where
  holder : (t.zone z).holder = none
  still : s.levelOf (.duck z) = 0 → (s.zone z).duckFade = .none →
    (t.zone z).duckFade = .none ∧ t.levelOf (.duck z) = 0 ∧ t.fadeOn (.duck z) = s.fadeOn (.duck z)
  instant : s.levelOf (.duck z) ≠ 0 ∨ (s.zone z).duckFade ≠ .none → (s.zone z).release = 0 →
    (t.zone z).duckFade = .none ∧ t.levelOf (.duck z) = 0 ∧ t.fadeOn (.duck z) = none
  fading : s.levelOf (.duck z) ≠ 0 ∨ (s.zone z).duckFade ≠ .none → 0 < (s.zone z).release →
    (t.zone z).duckFade = .release ∧ t.levelOf (.duck z) = s.levelOf (.duck z) ∧
      t.fadeOn (.duck z) = some (s.releaseFade z)

/-- A notice that a duck fade of the relay has been taken over. -/
def Notice.isDuckTaken : Notice → Bool
  | .fade (.relay _) (.duck _) .takenOver => true
  | _ => false

/-- What the release of at most `n` zones may change: zone records, ducks, the fade table, by at most one entry
each, and notices of duck fades taken over. -/
structure DuckChange (n : Nat) (s t : State) : Prop where
  frame : t = { s with
    lv := { s.lv with duck := t.lv.duck, fades := t.lv.fades }, rc := { s.rc with zones := t.rc.zones },
    notices := t.notices }
  room : t.lv.fades.length ≤ s.lv.fades.length + n
  owners : (∀ f ∈ s.lv.fades, ∀ z, f.target = .duck z → f.owner = .relay z) →
    ∀ f ∈ t.lv.fades, ∀ z, f.target = .duck z → f.owner = .relay z
  notices : (∀ f ∈ s.lv.fades, ∀ z, f.target = .duck z → f.owner = .relay z) →
    ∃ l, t.notices = s.notices ++ l ∧ l.length ≤ n ∧ ∀ x ∈ l, x.isDuckTaken = true

theorem DuckKept.refl (s : State) (z : Nat) : DuckKept s s z := ⟨rfl, rfl, rfl⟩

theorem DuckKept.trans {z : Nat} (h : DuckKept s t z) (k : DuckKept t u z) : DuckKept s u z :=
  ⟨k.zone.trans h.zone, k.level.trans h.level, k.fade.trans h.fade⟩

theorem DuckFreed.thenKept {z : Nat} (h : DuckFreed s t z) (k : DuckKept t u z) : DuckFreed s u z := by
  constructor <;> rw [k.zone]
  · exact h.holder
  all_goals rw [k.level, k.fade]
  · exact h.still
  · exact h.instant
  · exact h.fading

/-- A zone freed after others, at the same rate. -/
theorem DuckFreed.afterKept {z : Nat} (k : DuckKept s t z) (hr : t.ck = s.ck) (h : DuckFreed t u z) :
    DuckFreed s u z := by
  have entry : t.releaseFade z = s.releaseFade z := by
    unfold State.releaseFade
    rw [k.zone, k.level, hr]
  obtain ⟨holder, still, instant, fading⟩ := h
  rw [k.zone, k.level, k.fade] at still
  rw [k.zone, k.level] at instant fading
  rw [entry] at fading
  exact ⟨holder, still, instant, fading⟩

theorem DuckChange.refl (s : State) : DuckChange 0 s s where
  frame := rfl
  room := le_rfl
  owners := id
  notices _ := ⟨[], by simp⟩

theorem DuckChange.trans {m n : Nat} (h : DuckChange m s t) (k : DuckChange n t u) : DuckChange (m + n) s u where
  frame := k.frame.trans (by rw [h.frame])
  room := by have := h.room; have := k.room; omega
  owners := k.owners ∘ h.owners
  notices ho := by
    obtain ⟨l, hl, ln, lt⟩ := h.notices ho
    obtain ⟨j, hj, jn, jt⟩ := k.notices (h.owners ho)
    refine ⟨l ++ j, by rw [hj, hl, List.append_assoc], by simp; omega, fun x hx => ?_⟩
    exact (List.mem_append.1 hx).elim (lt x) (jt x)

end

end Sys2Proof.Machine
end

section
/-! PROOFS. LENGTH_EXPIRY: the zones of a page are freed one by one (06, R137, R138). -/

namespace Sys2Proof.Machine

section
variable {s t : State} {z : Nat}

/-! ### One zone -/

/-- `s` with zone `z` freed: its duck fade state is `k`, the ducks are `D`, the fade table `F`, and the notices in
`l` are raised. -/
def State.freedTo (s : State) (z : Nat) (D : Vector Level 32) (F : List Fade) (l : List Notice) (k : DuckFade) :
    State :=
  { s with
    notices := s.notices ++ l, lv := { s.lv with duck := D, fades := F }
    rc := (s.setZone z { s.zone z with holder := none, duckFade := k }).rc }

theorem State.freedTo_zone (h1 : 1 ≤ z) (h2 : z ≤ 32) (D : Vector Level 32) (F : List Fade) (l : List Notice)
    (k : DuckFade) : (s.freedTo z D F l k).zone z = { s.zone z with holder := none, duckFade := k } :=
  s.zone_setZone _ h1 h2

theorem State.freedTo_kept (h1 : 1 ≤ z) {D : Vector Level 32} {F : List Fade} (l : List Notice) (k : DuckFade)
    {y : Nat} (hy : 1 ≤ y) (h : y ≠ z) (hD : tget D (y - 1) 0 = tget s.lv.duck (y - 1) 0)
    (hF : F.find? (·.target == .duck y) = s.fadeOn (.duck y)) : DuckKept s (s.freedTo z D F l k) y :=
  ⟨s.zone_setZone_other _ h1 hy (Ne.symm h), hD, hF⟩

theorem State.freedTo_change {D : Vector Level 32} {F : List Fade} {l : List Notice} {k : DuckFade}
    (hn : F.length ≤ s.lv.fades.length + 1)
    (ho : ∀ f ∈ F, f ∈ s.lv.fades ∨ ∀ y, f.target = .duck y → f.owner = .relay y)
    (hl : l = [] ∨ ∃ f ∈ s.lv.fades, f.target = .duck z ∧ l = [.fade f.owner (.duck z) .takenOver]) :
    DuckChange 1 s (s.freedTo z D F l k) where
  frame := rfl
  room := hn
  owners h f hf y hy := (ho f hf).elim (fun m => h f m y hy) (fun m => m y hy)
  notices h := by
    refine ⟨l, rfl, ?_, ?_⟩
    · rcases hl with rfl | ⟨f, -, -, rfl⟩ <;> simp
    · rcases hl with rfl | ⟨f, hf, hx, rfl⟩
      · simp
      · simp [h f hf z hx, Notice.isDuckTaken]

/-- A removal of a fade: the table without it, and at most the notice to its owner. -/
theorem State.dropFade_eq (x : Target) (c : FadeCause) :
    ∃ l, s.dropFade x c = { s with
        notices := s.notices ++ l, lv := { s.lv with fades := withoutFade s.lv.fades x } } ∧
      (l = [] ∨ ∃ f ∈ s.lv.fades, f.target = x ∧ l = [.fade f.owner x c]) := by
  cases hf : s.fadeOn x with
  | none =>
    refine ⟨[], ?_, .inl rfl⟩
    rw [State.dropFade_none hf, withoutFade_of_none (State.fadeOn_none_iff.1 hf), List.append_nil]
  | some f =>
    obtain ⟨hm, hx⟩ := State.fadeOn_mem hf
    exact ⟨_, State.dropFade_some hf c, .inr ⟨f, hm, hx, rfl⟩⟩

/-- The release of one zone of a page that ends. -/
def State.freeZone (s : State) (z : Nat) : State := (s.setHolder z none).releaseZone z

theorem State.setHolder_zone (h1 : 1 ≤ z) (h2 : z ≤ 32) :
    (s.setHolder z none).zone z = { s.zone z with holder := none } := s.zone_setZone _ h1 h2

theorem State.setHolder_setDuckFade (h1 : 1 ≤ z) (h2 : z ≤ 32) (k : DuckFade) :
    ((s.setHolder z none).setDuckFade z k).rc = (s.setZone z { s.zone z with holder := none, duckFade := k }).rc := by
  have zone := State.setHolder_zone (s := s) h1 h2
  unfold State.setDuckFade
  rw [zone]
  simp only [State.setHolder, State.setZone, tset_tset]

/-- A zone whose DUCK is at 0 without a duck fade is freed and nothing else. -/
theorem State.freeZone_still (h1 : 1 ≤ z) (h2 : z ≤ 32) (hl : s.levelOf (.duck z) = 0)
    (hd : (s.zone z).duckFade = .none) : s.freeZone z = s.freedTo z s.lv.duck s.lv.fades [] .none := by
  have zone := State.setHolder_zone (s := s) h1 h2
  have stays : s.freeZone z = s.setHolder z none := by
    unfold State.freeZone State.releaseZone
    rw [zone]
    exact if_pos ⟨hl, hd⟩
  rw [stays, State.freedTo, ← hd, List.append_nil]
  rfl

/-- Else, with a release time of 0, its DUCK is set to 0 (06, R138). -/
theorem State.freeZone_instant (h1 : 1 ≤ z) (h2 : z ≤ 32)
    (hn : s.levelOf (.duck z) ≠ 0 ∨ (s.zone z).duckFade ≠ .none) (hr : (s.zone z).release = 0) :
    ∃ l, s.freeZone z =
        s.freedTo z (tset s.lv.duck (z - 1) 0) (withoutFade s.lv.fades (.duck z)) l .none ∧
      (l = [] ∨ ∃ f ∈ s.lv.fades, f.target = .duck z ∧ l = [.fade f.owner (.duck z) .takenOver]) := by
  have zone := State.setHolder_zone (s := s) h1 h2
  have goes : ¬ (s.levelOf (.duck z) = 0 ∧ (s.zone z).duckFade = .none) := fun h => hn.elim (· h.1) (· h.2)
  have sets : s.freeZone z = ((s.setHolder z none).setInstant (.duck z) 0).setDuckFade z .none := by
    unfold State.freeZone State.releaseZone
    rw [zone]
    exact (if_neg goes).trans (if_pos hr)
  obtain ⟨l, dropped, hl⟩ := State.dropFade_eq (s := s.setHolder z none) (.duck z) .takenOver
  refine ⟨l, ?_, hl⟩
  rw [sets, State.setInstant, dropped, State.freedTo, ← State.setHolder_setDuckFade h1 h2]
  rfl

/-- Else it returns by a release fade of the relay (06, R138). -/
theorem State.freeZone_fades (h1 : 1 ≤ z) (h2 : z ≤ 32) (room : s.lv.fades.length < 1024)
    (hn : s.levelOf (.duck z) ≠ 0 ∨ (s.zone z).duckFade ≠ .none) (hr : 0 < (s.zone z).release) :
    ∃ l, s.freeZone z =
        s.freedTo z s.lv.duck (withoutFade s.lv.fades (.duck z) ++ [s.releaseFade z]) l .release ∧
      (l = [] ∨ ∃ f ∈ s.lv.fades, f.target = .duck z ∧ l = [.fade f.owner (.duck z) .takenOver]) := by
  have zone := State.setHolder_zone (s := s) h1 h2
  have goes : ¬ (s.levelOf (.duck z) = 0 ∧ (s.zone z).duckFade = .none) := fun h => hn.elim (· h.1) (· h.2)
  have enters : ¬ (((s.setHolder z none).fadeOn (.duck z)).isNone = true ∧
      (s.setHolder z none).lv.fades.length ≥ Config.fadeCapacity) := fun h => absurd h.2 (Nat.not_le.2 room)
  obtain ⟨l, dropped, hl⟩ := State.dropFade_eq (s := s.setHolder z none) (.duck z) .takenOver
  have fades : s.freeZone z = (((s.setHolder z none).enterFade (.duck z) 0 (s.zone z).release .linear (.relay z)
      false).afterDuck z .release) := by
    unfold State.freeZone State.releaseZone
    rw [zone]
    refine ((if_neg goes).trans (if_neg (by simpa using hr.ne'))).trans ?_
    rw [State.fadeTo, if_neg enters]
  refine ⟨l, ?_, hl⟩
  have found : ((withoutFade s.lv.fades (.duck z) ++ [s.releaseFade z]).find? (·.target == .duck z)).isSome = true := by
    simp [State.releaseFade]
  have entered : (s.setHolder z none).enterFade (.duck z) 0 (s.zone z).release .linear (.relay z) false =
      { s.setHolder z none with
        notices := s.notices ++ l
        lv := { s.lv with fades := withoutFade s.lv.fades (.duck z) ++ [s.releaseFade z] } } := by
    rw [State.enterFade, dropped]
    rfl
  rw [fades, entered, State.afterDuck, if_pos (by exact found), State.freedTo, ← State.setHolder_setDuckFade h1 h2]
  rfl

theorem find_snoc_other {l : List Fade} {f : Fade} {x : Target} (h : f.target ≠ x) :
    (l ++ [f]).find? (·.target == x) = l.find? (·.target == x) := by
  simp [List.find?_append, h]

theorem length_withoutFade (l : List Fade) (x : Target) : (withoutFade l x).length ≤ l.length :=
  List.length_filter_le _ _

/-- The release of one zone frees it and keeps every other zone. -/
theorem State.freeZone_frees (h1 : 1 ≤ z) (h2 : z ≤ 32) (room : s.lv.fades.length < 1024) :
    DuckFreed s (s.freeZone z) z ∧ DuckChange 1 s (s.freeZone z) ∧
      ∀ y, 1 ≤ y → y ≠ z → DuckKept s (s.freeZone z) y := by
  have other : ∀ y, y ≠ z → Target.duck z ≠ .duck y := fun y hy h => hy (Target.duck.inj h).symm
  have mem : ∀ f ∈ withoutFade s.lv.fades (.duck z), f ∈ s.lv.fades := fun f hf => (List.mem_filter.1 hf).1
  have fewer := length_withoutFade s.lv.fades (.duck z)
  by_cases hs : s.levelOf (.duck z) = 0 ∧ (s.zone z).duckFade = .none
  · rw [State.freeZone_still h1 h2 hs.1 hs.2]
    have zone := State.freedTo_zone (s := s) h1 h2 s.lv.duck s.lv.fades [] .none
    refine ⟨⟨congrArg Zone.holder zone, fun _ _ => ⟨congrArg Zone.duckFade zone, hs.1, rfl⟩, ?_, ?_⟩, ?_, ?_⟩
    · exact fun hn => absurd hs (fun h => hn.elim (· h.1) (· h.2))
    · exact fun hn => absurd hs (fun h => hn.elim (· h.1) (· h.2))
    · exact State.freedTo_change (Nat.le_succ _) (fun f hf => .inl hf) (.inl rfl)
    · exact fun y hy h => State.freedTo_kept h1 _ _ hy h rfl rfl
  · have hn : s.levelOf (.duck z) ≠ 0 ∨ (s.zone z).duckFade ≠ .none := by
      by_cases h : s.levelOf (.duck z) = 0
      · exact .inr fun k => hs ⟨h, k⟩
      · exact .inl h
    rcases Nat.eq_zero_or_pos (s.zone z).release with hr | hr
    · obtain ⟨l, freed, hl⟩ := State.freeZone_instant h1 h2 hn hr
      rw [freed]
      have zone := State.freedTo_zone (s := s) h1 h2 (tset s.lv.duck (z - 1) 0) (withoutFade s.lv.fades (.duck z)) l
        .none
      refine ⟨⟨congrArg Zone.holder zone, fun a b => absurd ⟨a, b⟩ hs, fun _ _ => ⟨congrArg Zone.duckFade zone,
        tget_tset_same _ _ _ (by omega), fadeOn_withoutFade _ _⟩, fun _ h => absurd h (by omega)⟩, ?_, ?_⟩
      · exact State.freedTo_change (by omega) (fun f hf => .inl (mem f hf)) hl
      · exact fun y hy h => State.freedTo_kept h1 _ _ hy h (tget_tset_other _ _ _ (by omega))
          (find_withoutFade_other _ (other y h))
    · obtain ⟨l, freed, hl⟩ := State.freeZone_fades h1 h2 room hn hr
      rw [freed]
      have zone := State.freedTo_zone (s := s) h1 h2 s.lv.duck
        (withoutFade s.lv.fades (.duck z) ++ [s.releaseFade z]) l .release
      have found : (withoutFade s.lv.fades (.duck z) ++ [s.releaseFade z]).find? (·.target == .duck z) =
          some (s.releaseFade z) := by
        rw [List.find?_append, fadeOn_withoutFade]
        simp [State.releaseFade]
      refine ⟨⟨congrArg Zone.holder zone, fun a b => absurd ⟨a, b⟩ hs, fun _ h => absurd h (by omega),
        fun _ _ => ⟨congrArg Zone.duckFade zone, rfl, found⟩⟩, ?_, ?_⟩
      · refine State.freedTo_change (by simp; omega) (fun f hf => ?_) hl
        rcases List.mem_append.1 hf with hf | hf
        · exact .inl (mem f hf)
        · cases List.mem_singleton.1 hf
          exact .inr fun y hy => congrArg Owner.relay (Target.duck.inj hy)
      · exact fun y hy h => State.freedTo_kept h1 _ _ hy h rfl
          ((find_snoc_other (other y h)).trans (find_withoutFade_other _ (other y h)))

/-! ### The zones of a page -/

/-- The release of several zones frees each of them and keeps every other. -/
theorem State.freeZones_free (l : List Nat) (s : State) (hl : l.Nodup) (hz : ∀ z ∈ l, 1 ≤ z ∧ z ≤ 32)
    (room : s.lv.fades.length + l.length ≤ 1024) :
    (∀ z ∈ l, DuckFreed s (l.foldl State.freeZone s) z) ∧ DuckChange l.length s (l.foldl State.freeZone s) ∧
      ∀ y, 1 ≤ y → y ∉ l → DuckKept s (l.foldl State.freeZone s) y := by
  induction l generalizing s with
  | nil => exact ⟨nofun, .refl s, fun y _ _ => .refl s y⟩
  | cons z zs ih =>
    obtain ⟨h1, h2⟩ := hz z (by simp)
    obtain ⟨hnot, hnd⟩ := List.nodup_cons.1 hl
    rw [List.length_cons] at room
    obtain ⟨freed, change, kept⟩ := State.freeZone_frees (s := s) h1 h2 (by omega)
    have more := change.room
    obtain ⟨freeds, changes, kepts⟩ := ih (s.freeZone z) hnd (fun y hy => hz y (by simp [hy])) (by omega)
    have clock : (s.freeZone z).ck = s.ck := by rw [change.frame]
    rw [List.foldl_cons, List.length_cons, Nat.add_comm]
    refine ⟨fun y hy => ?_, change.trans changes, fun y hy hn => ?_⟩
    · rcases List.mem_cons.1 hy with rfl | hy
      · exact freed.thenKept (kepts y h1 hnot)
      · have y1 := (hz y (by simp [hy])).1
        exact (freeds y hy).afterKept (kept y y1 fun h => hnot (h ▸ hy)) clock
    · obtain ⟨hne, hn⟩ := not_or.1 (fun h => hn (List.mem_cons.2 h))
      exact (kept y hy hne).trans (kepts y hy hn)

end

end Sys2Proof.Machine
end

section
/-! PROOFS. The two expiries of a page (06, R137–R139, R143). -/

namespace Sys2Proof.Machine

section
variable {s t : State}

/-! ### Rows -/

theorem exec_waitExpiry (s : State) (id : Nat) : exec (.waitExpiry id) s =
    .next (if s.running && s.waitExpired id then (s.endPage id .expired).settle else s).granted := rfl

theorem exec_lengthExpiry (s : State) (id : Nat) : exec (.lengthExpiry id) s =
    .next (if s.running && s.lengthExpired id then (s.endPage id .timeout).settle else s).granted := rfl

theorem State.waitExpired_eq {p : Page} {e : Nat} (hp : s.page p.id = some p) (hw : p.st = .waiting)
    (he : p.waitExpiry = some e) : s.waitExpired p.id = decide (e ≤ s.ck.now) := by
  simp [State.waitExpired, hp, hw, he]

theorem State.lengthExpired_eq {p : Page} {e : Nat} (hp : s.page p.id = some p) (he : p.lengthExpiry = some e) :
    s.lengthExpired p.id = decide (e ≤ s.ck.now) := by
  simp [State.lengthExpired, hp, he]

/-! ### Ends -/

/-- A page ends from WAITING: it leaves the table with its report (06, R138). -/
theorem State.endPage_waiting {p : Page} (hp : s.page p.id = some p) (hw : p.st = .waiting) (hr : s.Reports 1)
    (c : PageCause) (hc : c ≠ .done) : s.endPage p.id c =
      (s.dropPage p.id).posted clsPage repPageEnded (w32 p.id) (w32 (pageCauseCode c)) (w32 0) := by
  have posted := State.report_posted (s := s.dropPage p.id) (hr.congr rfl) clsPage repPageEnded (w32 p.id)
    (w32 (pageCauseCode c)) (w32 0)
  simp only [State.endPage, hp, if_pos hw, State.postEnded, if_neg hc]
  exact posted

/-- A LIVE page without a voice ends: its zones and its microphone are freed (06, R138). -/
theorem State.endPage_live {p : Page} (hp : s.page p.id = some p) (hw : p.st ≠ .waiting) (hv : p.voice = none)
    (hl : p.live = true) (c : PageCause) (v : EndCause) : s.endPage p.id c v =
      (((((s.heldZones p.id).foldl State.freeZone (s.dropPage p.id)).setMic p.mic none).postEnded p.id c
        v).handOnAir).tell .scan := by
  simp only [State.endPage, hp, if_neg hw, hv, hl, if_true]
  rfl

/-- With no page in the table no group is ON_AIR (06, R143). -/
theorem State.onAirGroups_empty (h : s.rc.pages = []) : s.onAirGroups = 0 := by
  have page : ∀ x, s.holderPage x = none := by
    intro x
    cases hx : x.holder <;> simp [State.holderPage, hx, h]
  simp [State.onAirGroups, page]

/-- A microphone that no page has is free, in its table or not. -/
theorem State.setMic_free (s : State) (m : Nat) : (s.setMic m none).micFree m = true := by
  have none : tget (tset s.rc.mics (m - 1) .none) (m - 1) .none = .none := by
    by_cases h : m - 1 < 2
    · exact tget_tset_same _ _ _ h
    · simp [tget, tset, h]
  rw [State.micFree]
  exact congrArg Option.isNone none

theorem State.posted_ml_congr (hm : t.ml = s.ml) (hc : t.ck = s.ck) (cls kind : Nat) (a b c : Word) :
    (t.posted cls kind a b c).ml = (s.posted cls kind a b c).ml := by
  simp only [State.posted, hm, hc]

/-- A notice that a duck fade was taken over is stale for the relay (06, R134). -/
theorem Notice.isDuckTaken_idle {n : Notice} (h : n.isDuckTaken = true) (s : State) : s.notice n = s := by
  unfold Notice.isDuckTaken at h
  split at h
  · simp [State.notice, State.duckNotice]
  · cases h

/-- The zones a page holds are zones, each once. -/
theorem State.heldZones_zones (s : State) (id : Nat) :
    (s.heldZones id).Nodup ∧ (∀ z ∈ s.heldZones id, 1 ≤ z ∧ z ≤ 32) ∧ (s.heldZones id).length ≤ 32 := by
  refine ⟨(oneTo_nodup 32).filter _, fun z hz => mem_oneTo.1 (List.mem_filter.1 hz).1, ?_⟩
  exact (List.length_filter_le _ _).trans (by simp [oneTo])

theorem State.mem_heldZones {id z : Nat} (h1 : 1 ≤ z) (h2 : z ≤ 32) :
    z ∈ s.heldZones id ↔ (s.zone z).holder = some id := by
  simp [State.heldZones, mem_oneTo, h1, h2]

/-- The state in which the only page, a LIVE one without a voice, has ended: `e` after the release of its zones,
with the microphone free, the report raised and no group ON_AIR. -/
def State.afterEnd (e : State) (p : Page) (c : PageCause) : State :=
  { e.posted clsPage repPageEnded (w32 p.id) (w32 (pageCauseCode c)) (w32 0) with
    notices := [], rc := { (e.setMic p.mic none).rc with onAir := 0 } }

/-- The only page, a LIVE one without a voice, ends; its notices leave nothing more to do. -/
theorem State.endPage_settles {p : Page} (hp : s.rc.pages = [p]) (hw : p.st ≠ .waiting) (hv : p.voice = none)
    (hl : p.live = true) (hq : s.notices = []) (hr : s.Reports 1) (c : PageCause) (hc : c ≠ .done)
    {n : Nat} (hn : n ≤ 32)
    (change : DuckChange n (s.dropPage p.id) ((s.heldZones p.id).foldl State.freeZone (s.dropPage p.id)))
    (ho : ∀ f ∈ s.lv.fades, ∀ z, f.target = .duck z → f.owner = .relay z) :
    (s.endPage p.id c).settle = ((s.heldZones p.id).foldl State.freeZone (s.dropPage p.id)).afterEnd p c := by
  rw [State.endPage_live (State.page_single hp) hw hv hl]
  generalize (s.heldZones p.id).foldl State.freeZone (s.dropPage p.id) = e at change ⊢
  have empty : e.rc.pages = [] := by rw [change.frame]; simp [State.dropPage, hp]
  have ml : e.ml = s.ml := by rw [change.frame]; rfl
  obtain ⟨l, raised, short, taken⟩ := change.notices ho
  have raised : e.notices = l := raised.trans (by rw [show (s.dropPage p.id).notices = [] from hq]; rfl)
  have ended : (((e.setMic p.mic none).postEnded p.id c .finished).handOnAir).tell .scan =
      { e.afterEnd p c with notices := l ++ [.scan] } := by
    have posted := State.report_posted (s := e.setMic p.mic none) (hr.congr ml) clsPage repPageEnded (w32 p.id)
      (w32 (pageCauseCode c)) (w32 0)
    have groups := State.onAirGroups_empty (s := e.setMic p.mic none) empty
    rw [State.postEnded, if_neg hc, posted, ← raised]
    show State.mk _ _ _ _ _ _ _ _ _ (Rc.mk _ _ _ _ _ (State.onAirGroups (e.setMic p.mic none))) _ _ _ = _
    rw [groups]
    rfl
  rw [ended]
  refine State.settle_idle ?_ fun x hx k => ?_
  · show (l ++ [Notice.scan]).length ≤ 8192
    simp
    omega
  · rcases List.mem_append.1 hx with hx | hx
    · exact Notice.isDuckTaken_idle (taken x hx) _
    · cases List.mem_singleton.1 hx
      exact State.scan_empty empty

end

/-- Settles O20: a WAITING page leaves with its report; the only page's zones are freed one by one, and the notices
that this raises leave nothing to do. -/
theorem pagesExpire : Obligations.PagesExpire := by
  refine ⟨fun s p e hrun hq hr hp hw he => ⟨fun due => ?_, fun early => ?_⟩,
    fun s p e hrun hq hr hp hst hl hv he room ho hz => ⟨fun due => ?_, fun early => ?_⟩⟩
  · have ended := State.endPage_waiting hp hw hr .expired (by decide)
    have quiet : (s.endPage p.id .expired).settle = s.endPage p.id .expired :=
      State.settle_quiet ((congrArg State.notices ended).trans hq)
    rw [exec_waitExpiry, State.waitExpired_eq hp hw he, if_pos (by simp [State.running, hrun, due]), quiet, ended]
    rfl
  · rw [exec_waitExpiry, State.waitExpired_eq hp hw he, if_neg (by simp [early])]
  · obtain ⟨nodup, inside, few⟩ := s.heldZones_zones p.id
    obtain ⟨freed, change, kept⟩ := State.freeZones_free (s.heldZones p.id) (s.dropPage p.id) nodup inside
      (by have : (s.dropPage p.id).lv.fades.length = s.lv.fades.length := rfl
          omega)
    have settled := State.endPage_settles hp (by simp [hst]) hv hl hq hr .timeout (by decide) few change ho
    have run := exec_lengthExpiry s p.id
    rw [State.lengthExpired_eq (State.page_single hp) he, if_pos (by simp [State.running, hrun, due]), settled] at run
    generalize (s.heldZones p.id).foldl State.freeZone (s.dropPage p.id) = u at freed change kept run
    have frame := change.frame
    have ml : u.ml = s.ml := by rw [frame]; rfl
    have ck : u.ck = s.ck := by rw [frame]; rfl
    obtain ⟨ce, fb, il, cu, mx, vu⟩ : u.ce = s.ce ∧ u.fb = s.fb ∧ u.il = s.il ∧ u.cu = s.cu ∧ u.mx = s.mx ∧
        u.vu = s.vu := by
      rw [frame]
      exact ⟨rfl, rfl, rfl, rfl, rfl, rfl⟩
    refine ⟨_, run, ?_, fun z h1 h2 => ?_, u.setMic_free p.mic, rfl, fun z h1 h2 hn => ?_, fun z h1 h2 hh => ?_,
      State.posted_ml_congr ml ck _ _ _ _ _, ck, ce, fb, il, cu, mx, vu, rfl⟩
    · show u.rc.pages = []
      rw [frame]
      simp [State.dropPage, hp]
    · by_cases hh : (s.zone z).holder = some p.id
      · exact (freed z ((State.mem_heldZones h1 h2).2 hh)).holder
      · have k := kept z h1 fun hm => hh ((State.mem_heldZones h1 h2).1 hm)
        exact (congrArg Zone.holder k.zone).trans ((hz z h1 h2).resolve_right hh)
    · have k := kept z h1 fun hm => by
        rw [State.mem_heldZones h1 h2, hn] at hm
        cases hm
      exact ⟨k.zone, k.level, k.fade⟩
    · have f := freed z ((State.mem_heldZones h1 h2).2 hh)
      exact ⟨f.still, f.instant, f.fading⟩
  · rw [exec_lengthExpiry, State.lengthExpired_eq (State.page_single hp) he, if_neg (by simp [early])]

end Sys2Proof.Machine
end

section
/-! PROOFS. The fade step event of a control period in which no fade ends (01, R18). -/

namespace Sys2Proof.Machine

section
variable {s t u : State}

/-! ### What the steps of fades write -/

/-- What an entry writes over a level that stands at `v`: L_k, or nothing while it is frozen (01, R18). -/
def Fade.written (f : Fade) (v : Level) : Level := if f.frozen then v else fadeLevel f.s f.t f.d f.k f.law

/-- What the entries of a table write over target `x`, which stands at `v`. -/
def writtenBy (l : List Fade) (x : Target) (v : Level) : Level :=
  match l.find? (·.target == x) with
  | some f => f.written v
  | none => v

/-- What the entries of a table make of a contribution of bus `b`. -/
def writtenContrib (l : List Fade) (b : Nat) (x : Contrib) : Contrib :=
  { x with level := writtenBy l (.crosspoint b x.source) x.level }

theorem writtenBy_same (f : Fade) (l : List Fade) (v : Level) : writtenBy (f :: l) f.target v = f.written v := by
  simp [writtenBy]

theorem writtenBy_other {f : Fade} {x : Target} (h : f.target ≠ x) (l : List Fade) (v : Level) :
    writtenBy (f :: l) x v = writtenBy l x v := by
  simp [writtenBy, h]

theorem writtenBy_untouched {l : List Fade} {x : Target} (h : ∀ f ∈ l, f.target ≠ x) (v : Level) :
    writtenBy l x v = v := by
  have none : l.find? (·.target == x) = none := by simpa using h
  simp [writtenBy, none]

/-- The entries of a table write what the first entry writes, and then the others. -/
theorem writtenBy_cons {f : Fade} {l : List Fade} (h : ∀ g ∈ l, g.target ≠ f.target) (x : Target) (v : Level) :
    writtenBy (f :: l) x v = writtenBy l x (writtenBy [f] x v) := by
  by_cases hx : f.target = x
  · subst hx
    rw [writtenBy_same, writtenBy_same, writtenBy_untouched h]
  · rw [writtenBy_other hx, writtenBy_other hx]
    rfl

theorem writtenContrib_nil (b : Nat) (x : Contrib) : writtenContrib [] b x = x := rfl

theorem writtenContrib_cons {f : Fade} {l : List Fade} (h : ∀ g ∈ l, g.target ≠ f.target) (b : Nat) (x : Contrib) :
    writtenContrib (f :: l) b x = writtenContrib l b (writtenContrib [f] b x) := by
  simp only [writtenContrib, writtenBy_cons h]

/-! ### One entry -/

/-- What the writing of levels may change: the levels, and the contribution lists of the buses. -/
structure LevelChange (s t : State) : Prop where
  frame : t = { s with
    lv := { t.lv with reduction := s.lv.reduction, fades := s.lv.fades }, mx := { s.mx with buses := t.mx.buses } }
  bus : ∀ b, b < 25 → t.bus b = { s.bus b with list := (t.bus b).list }

theorem LevelChange.refl (s : State) : LevelChange s s := ⟨rfl, fun _ _ => rfl⟩

theorem LevelChange.trans (h : LevelChange s t) (k : LevelChange t u) : LevelChange s u where
  frame := k.frame.trans (by rw [h.frame])
  bus b hb := (k.bus b hb).trans (by rw [h.bus b hb])

theorem State.mapContrib_levelChange (s : State) (b c : Nat) (f : Contrib → Contrib) :
    LevelChange s (s.mapContrib b c f) where
  frame := rfl
  bus d hb := by
    by_cases hd : b = d
    · subst hd
      simp only [State.mapContrib, State.bus_setBus _ _ hb]
    · rw [State.mapContrib, State.bus_setBus_other _ _ hd]

theorem State.putLevel_levelChange (s : State) (x : Target) (v : Level) : LevelChange s (s.putLevel x v) := by
  cases x with
  | crosspoint b c => exact s.mapContrib_levelChange b c _
  | _ => exact ⟨rfl, fun _ _ => rfl⟩

theorem State.writeFade_levelChange (s : State) (f : Fade) : LevelChange s (s.writeFade f) := by
  unfold State.writeFade
  split
  · exact .refl s
  · exact s.putLevel_levelChange _ _

/-- A frozen entry writes nothing (01, R18). -/
theorem State.writeFade_frozen {f : Fade} (h : f.frozen = true) (s : State) : s.writeFade f = s := by
  simp [State.writeFade, h]

theorem State.writeFade_moving {f : Fade} (h : f.frozen = false) (s : State) :
    s.writeFade f = s.putLevel f.target (fadeLevel f.s f.t f.d f.k f.law) := by
  simp [State.writeFade, h]

theorem Fade.written_frozen {f : Fade} (h : f.frozen = true) (v : Level) : f.written v = v := by
  simp [Fade.written, h]

theorem writtenContrib_frozen {f : Fade} (h : f.frozen = true) (b : Nat) (x : Contrib) :
    writtenContrib [f] b x = x := by
  by_cases hx : f.target = .crosspoint b x.source
  · rw [writtenContrib, ← hx, writtenBy_same, Fade.written_frozen h]
  · rw [writtenContrib, writtenBy_other hx, writtenBy_untouched (by simp)]

theorem writtenContrib_other {f : Fade} {b : Nat} {x : Contrib} (h : f.target ≠ .crosspoint b x.source) :
    writtenContrib [f] b x = x := by
  rw [writtenContrib, writtenBy_other h, writtenBy_untouched (by simp)]

/-- A step of one entry, in the contribution lists. -/
theorem State.writeFade_list (s : State) (f : Fade) {b : Nat} (hb : b < 25) :
    ((s.writeFade f).bus b).list = (s.bus b).list.map (writtenContrib [f] b) := by
  cases hf : f.frozen with
  | true =>
    have same : writtenContrib [f] b = id := funext (writtenContrib_frozen hf b)
    rw [State.writeFade_frozen hf, same, List.map_id]
  | false =>
    rw [State.writeFade_moving hf]
    by_cases hx : ∃ c, f.target = .crosspoint b c
    · obtain ⟨c, hc⟩ := hx
      rw [hc]
      simp only [State.putLevel, State.mapContrib, State.bus_setBus _ _ hb, Machine.mapContrib]
      refine List.map_congr_left fun x _ => ?_
      by_cases hs : x.source = c
      · subst hs
        rw [if_pos (by simp), writtenContrib, ← hc, writtenBy_same, Fade.written, if_neg (by simp [hf])]
      · rw [if_neg (by simpa using hs), writtenContrib_other (by rw [hc]; simpa using fun h => hs h.symm)]
    · have same : ∀ x ∈ (s.bus b).list, writtenContrib [f] b x = id x := fun x _ =>
        writtenContrib_other fun h => hx ⟨_, h⟩
      rw [List.map_congr_left same, List.map_id]
      cases ht : f.target with
      | crosspoint d c =>
        have hd : d ≠ b := fun h => hx ⟨c, by rw [ht, h]⟩
        simp only [State.putLevel, State.mapContrib, State.bus_setBus_other _ _ hd]
      | _ => rfl

/-- No step of a fade adds a contribution or takes one away. -/
theorem State.writeFade_contrib (s : State) (f : Fade) {b : Nat} (hb : b < 25) (c : Nat) :
    (s.writeFade f).contrib b c = (s.contrib b c).map (writtenContrib [f] b) := by
  simp only [State.contrib, findContrib, s.writeFade_list f hb, List.find?_map]
  rfl

/-- The target of an entry is in the store: a crosspoint has its contribution (01, R22). -/
def State.inStore (s : State) (x : Target) : Prop :=
  x.wf = true ∧ ∀ b c, x = .crosspoint b c → (s.contrib b c).isSome = true

theorem State.inStore.congr {x : Target} (h : s.inStore x) (hm : t.mx = s.mx) : t.inStore x :=
  ⟨h.1, fun b c hx => by rw [State.contrib, State.bus, hm]; exact h.2 b c hx⟩

theorem State.inStore.writeFade {x : Target} (h : s.inStore x) (f : Fade) : (s.writeFade f).inStore x := by
  refine ⟨h.1, fun b c hx => ?_⟩
  have hb : b < 25 := by
    have := h.1
    simp [hx, Target.wf] at this
    exact this.1
  rw [s.writeFade_contrib f hb, Option.isSome_map]
  exact h.2 b c hx

/-- A step of one entry, in the level store. -/
theorem State.levelOf_writeFade {f : Fade} (hf : s.inStore f.target) {x : Target} (hx : x.wf = true) :
    (s.writeFade f).levelOf x = writtenBy [f] x (s.levelOf x) := by
  by_cases same : f.target = x
  · subst same
    rw [writtenBy_same]
    cases hz : f.frozen with
    | true => rw [State.writeFade_frozen hz, Fade.written_frozen hz]
    | false =>
      rw [State.writeFade_moving hz, s.levelOf_putLevel _ _ hf.1 hf.2, Fade.written, if_neg (by simp [hz])]
  · rw [writtenBy_other same, writtenBy_untouched (by simp)]
    cases hz : f.frozen with
    | true => rw [State.writeFade_frozen hz]
    | false => rw [State.writeFade_moving hz, s.levelOf_putLevel_other _ _ _ hf.1 hx same]

/-! ### The whole table -/

/-- What the steps of the entries `l` leave of `s`. -/
structure Written (l : List Fade) (s t : State) : Prop where
  change : LevelChange s t
  list : ∀ b, b < 25 → (t.bus b).list = (s.bus b).list.map (writtenContrib l b)
  level : ∀ x : Target, x.wf = true → t.levelOf x = writtenBy l x (s.levelOf x)

theorem State.writeFade_written {f : Fade} (hf : s.inStore f.target) : Written [f] s (s.writeFade f) where
  change := s.writeFade_levelChange f
  list _ hb := s.writeFade_list f hb
  level _ hx := State.levelOf_writeFade hf hx

theorem Written.cons {f : Fade} {l : List Fade} (h : ∀ g ∈ l, g.target ≠ f.target) (first : Written [f] s t)
    (rest : Written l t u) : Written (f :: l) s u where
  change := first.change.trans rest.change
  list b hb := by
    rw [rest.list b hb, first.list b hb, List.map_map]
    exact List.map_congr_left fun x _ => (writtenContrib_cons h b x).symm
  level x hx := by rw [rest.level x hx, first.level x hx, writtenBy_cons h]

/-- The entries of a table, each on a target of its own, write one after another (01, R13, R18). -/
theorem State.foldl_writeFade (l : List Fade) (s : State) (hd : (l.map (·.target)).Nodup)
    (hs : ∀ f ∈ l, s.inStore f.target) : Written l s (l.foldl State.writeFade s) := by
  induction l generalizing s with
  | nil =>
    have same : ∀ b, writtenContrib [] b = id := fun b => funext (writtenContrib_nil b)
    exact ⟨.refl s, fun b _ => by rw [same, List.map_id]; rfl, fun _ _ => rfl⟩
  | cons f l ih =>
    obtain ⟨hf, hd⟩ := List.nodup_cons.1 hd
    have first := State.writeFade_written (hs f (by simp))
    have rest := ih (s.writeFade f) hd fun g hg => (hs g (by simp [hg])).writeFade f
    exact first.cons (fun g hg e => hf (List.mem_map.2 ⟨g, hg, e⟩)) rest

/-! ### The fade step event -/

/-- What one step of the table writes over target `x`, which stands at `v` (01, R18). -/
def State.stepped (s : State) (x : Target) (v : Level) : Level :=
  match s.fadeOn x with
  | some f => if f.frozen then v else fadeLevel f.s f.t f.d (f.k + 1) f.law
  | none => v

@[simp] theorem bumpFade_target (f : Fade) : (bumpFade f).target = f.target := by
  unfold bumpFade
  split <;> rfl

/-- The entries write L_k with the count that has just risen. -/
theorem Fade.written_bumpFade (f : Fade) (v : Level) : (bumpFade f).written v =
    if f.frozen then v else fadeLevel f.s f.t f.d (f.k + 1) f.law := by
  cases h : f.frozen <;> simp [bumpFade, Fade.written, h]

theorem writtenBy_bumped (s : State) (x : Target) (v : Level) :
    writtenBy (s.lv.fades.map bumpFade) x v = s.stepped x v := by
  have target : (fun f : Fade => f.target == x) ∘ bumpFade = fun f => f.target == x := by
    funext f
    simp
  rw [writtenBy, State.stepped, State.fadeOn, List.find?_map, target]
  cases s.lv.fades.find? (·.target == x) with
  | none => rfl
  | some f => exact f.written_bumpFade v

/-- The entries of a table have targets of their own, which the store holds, and none takes its last step now. -/
structure State.Moving (s : State) : Prop where
  apart : (s.lv.fades.map (·.target)).Nodup
  store : ∀ f ∈ s.lv.fades, s.inStore f.target
  going : ∀ f ∈ s.lv.fades, f.k + 1 < f.d

/-- With no entry at its end the fade step event is the writes of all entries (01, R18). -/
theorem State.Moving.stepFades_eq (h : s.Moving) :
    s.stepFades = (s.lv.fades.map bumpFade).foldl State.writeFade (s.setFades (s.lv.fades.map bumpFade)) := by
  have going : (s.lv.fades.map bumpFade).filter (fun f => !f.frozen && decide (f.d ≤ f.k)) = [] := by
    simp only [List.filter_eq_nil_iff, List.mem_map, forall_exists_index, and_imp, forall_apply_eq_imp_iff₂]
    intro f hf
    have := h.going f hf
    cases hz : f.frozen <;> simp [bumpFade, hz]
    omega
  rw [State.stepFades, going]
  rfl

/-- The state after a fade step event in which no fade ends (01, R18). -/
structure Stepped (s t : State) : Prop where
  frame : t = { s with
    lv := { t.lv with reduction := s.lv.reduction }, mx := { s.mx with buses := t.mx.buses } }
  fades : t.lv.fades = s.lv.fades.map bumpFade
  bus : ∀ b, b < 25 → t.bus b = { s.bus b with
    list := (s.bus b).list.map fun x => { x with level := s.stepped (.crosspoint b x.source) x.level } }
  level : ∀ x : Target, x.wf = true → t.levelOf x = s.stepped x (s.levelOf x)

theorem State.Moving.stepFades (h : s.Moving) : Stepped s s.stepFades := by
  have targets : (s.lv.fades.map bumpFade).map (·.target) = s.lv.fades.map (·.target) := by
    simp [Function.comp_def]
  have w := State.foldl_writeFade (s.lv.fades.map bumpFade) (s.setFades (s.lv.fades.map bumpFade))
    (by rw [targets]; exact h.apart) (fun g hg => by
      obtain ⟨f, hf, rfl⟩ := List.mem_map.1 hg
      rw [bumpFade_target]
      exact (h.store f hf).congr rfl)
  rw [h.stepFades_eq]
  generalize (s.lv.fades.map bumpFade).foldl State.writeFade _ = t at w
  have fades : t.lv.fades = s.lv.fades.map bumpFade := by rw [w.change.frame]; rfl
  refine ⟨?_, fades, fun b hb => ?_, fun x hx => ?_⟩
  · exact w.change.frame.trans (by rw [w.change.frame]; rfl)
  · rw [w.change.bus b hb, w.list b hb]
    refine congrArg (fun l => { s.bus b with list := l }) (List.map_congr_left fun x _ => ?_)
    rw [writtenContrib, writtenBy_bumped]
  · rw [w.level x hx, writtenBy_bumped]
    rfl

/-- A moving entry's target stands at L_k, a frozen one's where it stood. -/
theorem State.Moving.stepped_target (h : s.Moving) {f : Fade} (hf : f ∈ s.lv.fades) (v : Level) :
    s.stepped f.target v = if f.frozen then v else fadeLevel f.s f.t f.d (f.k + 1) f.law := by
  have found : s.fadeOn f.target = some f := by
    obtain ⟨g, hg⟩ : ∃ g, s.fadeOn f.target = some g := by
      cases he : s.fadeOn f.target with
      | none => exact absurd rfl (State.fadeOn_none_iff.1 he f hf)
      | some g => exact ⟨g, rfl⟩
    obtain ⟨hm, ht⟩ := State.fadeOn_mem hg
    rw [hg, List.inj_on_of_nodup_map h.apart hm hf ht]
  simp only [State.stepped, found]

theorem State.stepped_untouched {x : Target} (h : ∀ f ∈ s.lv.fades, f.target ≠ x) (v : Level) :
    s.stepped x v = v := by
  simp only [State.stepped, State.fadeOn_none_iff.2 h]

end

end Sys2Proof.Machine
end

section
/-! PROOFS. The computation of the period that has ended, and the formation of the one that begins (01, R12; 02,
R37–R42; 06, R124, R125). -/

namespace Sys2Proof.Machine

section
variable {s t : State}

theorem tget_ofFn {α : Type} {n i : Nat} (f : Fin n → α) (d : α) (h : i < n) :
    tget (Vector.ofFn f) i d = f ⟨i, h⟩ := by
  simp [tget, h]

/-! ### The sums of a bus -/

/-- The exact sum of a bus at sample `j` of the period (02, R37). -/
def State.pathSum (s : State) (frames : List Frame) (b j : Nat) : Int :=
  ((s.paths b).map fun p => scale ((s.sourceSamples frames p.1).getD j 0) (rampGain p.2 j)).sum

/-- Path after path is added, sample by sample. -/
theorem foldl_products (frames : List Frame) (s : State) (ps : List (Nat × Path)) (acc : Nat → Int) :
    ps.foldl (fun acc p => List.zipWith (· + ·) acc (products (s.sourceSamples frames p.1) p.2))
      ((List.range 64).map acc) =
      (List.range 64).map fun j => acc j +
        (ps.map fun p => scale ((s.sourceSamples frames p.1).getD j 0) (rampGain p.2 j)).sum := by
  induction ps generalizing acc with
  | nil => simp
  | cons p ps ih =>
    have first : List.zipWith (· + ·) ((List.range 64).map acc) (products (s.sourceSamples frames p.1) p.2) =
        (List.range 64).map fun j => acc j + scale ((s.sourceSamples frames p.1).getD j 0) (rampGain p.2 j) := by
      simp only [products, List.zipWith_map, List.zipWith_self]
    rw [List.foldl_cons, first, ih]
    simp only [List.map_cons, List.sum_cons, add_assoc]

theorem State.busSums_eq (s : State) (frames : List Frame) (b : Nat) :
    s.busSums frames b = (List.range 64).map (s.pathSum frames b) := by
  have silent : silence = (List.range 64).map fun _ => (0 : Int) := by decide
  have sums := foldl_products frames s (s.paths b) fun _ => 0
  rw [State.busSums, silent, sums]
  simp only [zero_add]
  rfl

/-! ### A bus closed -/

/-- The output of a bus is its sums, saturated (02, R37). -/
theorem closeBus_out (u : Bus) (f : Nat → Int) {j : Nat} (hj : j < 64) :
    (closeBus u ((List.range 64).map f)).out.getD j 0 = max (-8388608) (min 8388607 (f j)) := by
  simp [closeBus, hj, saturate]

theorem saturate_eq_iff (x : Int) : saturate x = x ↔ ¬ (x < -8388608 ∨ 8388607 < x) := by
  unfold saturate
  omega

/-- A period in which a sum had to be saturated counts as one clip (02, R39). -/
theorem closeBus_clip (u : Bus) (f : Nat → Int) : (closeBus u ((List.range 64).map f)).clip =
    if (List.range 64).any (fun j => decide (f j < -8388608 ∨ 8388607 < f j)) then min (u.clip + 1) 65535
      else u.clip := by
  have whole : ((List.range 64).map f).all (fun x => saturate x == x) =
      !(List.range 64).any fun j => decide (f j < -8388608 ∨ 8388607 < f j) := by
    rw [List.all_map, List.not_any_eq_all_not]
    refine congrArg _ (funext fun j => ?_)
    rw [Bool.eq_iff_iff]
    simp only [Function.comp_apply, beq_iff_eq, saturate_eq_iff, Bool.not_eq_true', decide_eq_false_iff_not]
  simp only [closeBus, whole]
  cases (List.range 64).any fun j => decide (f j < -8388608 ∨ 8388607 < f j) <;> rfl

/-! ### The period computed -/

/-- What the computation of a period may change: output, clip count and peak of a bus, the limiters, and the page
audio. -/
structure Carried (s t : State) : Prop where
  frame : t = { s with
    lv := { s.lv with reduction := t.lv.reduction }, mx := { s.mx with buses := t.mx.buses }
    rc := { s.rc with pages := t.rc.pages } }
  bus : ∀ b, b < 25 → t.bus b = { s.bus b with out := (t.bus b).out, clip := (t.bus b).clip, peak := (t.bus b).peak }

theorem Carried.refl (s : State) : Carried s s := ⟨rfl, fun _ _ => rfl⟩

/-- The buses after the computation of a period (02, R37–R41). -/
def State.closedBuses (s : State) (frames : List Frame) : Vector Bus 25 :=
  Vector.ofFn fun b => closeBus (s.bus b.val) (s.busSums frames b.val)

/-- The limiters after a step on the outputs of `buses` (05, R108). -/
def State.limitedBy (s : State) (buses : Vector Bus 25) : Vector Int 16 :=
  Vector.ofFn fun m => limiterStep (s.mix (m.val + 1)).ceiling (s.mix (m.val + 1)).attack (s.mix (m.val + 1)).release
    (peakOf (tget buses (m.val + 8) Bus.reset).out) (tget s.lv.reduction m.val 0)

theorem State.limiterSteps_running (h : s.ml.part = .running) :
    s.limiterSteps = { s with lv := { s.lv with reduction := s.limitedBy s.mx.buses } } := by
  rw [State.limiterSteps, if_neg (by simp [State.running, h])]
  rfl

/-- The state with its buses replaced. -/
def State.withBuses (s : State) (buses : Vector Bus 25) : State := { s with mx := { s.mx with buses := buses } }

/-- The state with the audio of every page computed (06, R125). -/
def State.withAudio (s : State) (frames : List Frame) : State :=
  { s with rc := { s.rc with pages := s.rc.pages.map fun p => { p with audio := pageAudio p frames } } }

theorem State.limitedBy_withBuses (s : State) (b c : Vector Bus 25) :
    (s.withBuses b).limitedBy c = s.limitedBy c := rfl

theorem State.computePeriod_eq (s : State) (frames : List Frame) :
    s.computePeriod frames = (s.withBuses (s.closedBuses frames)).limiterSteps.withAudio frames := rfl

/-- The computation of a period while RUNNING. -/
theorem State.computePeriod_running (h : s.ml.part = .running) (frames : List Frame) : s.computePeriod frames =
    { s with
      lv := { s.lv with reduction := s.limitedBy (s.closedBuses frames) }
      mx := { s.mx with buses := s.closedBuses frames }
      rc := { s.rc with pages := s.rc.pages.map fun p => { p with audio := pageAudio p frames } } } := by
  rw [State.computePeriod_eq, State.limiterSteps_running (s := s.withBuses (s.closedBuses frames)) h]
  generalize s.closedBuses frames = buses
  have limited : (s.withBuses buses).limitedBy (s.withBuses buses).mx.buses = s.limitedBy buses :=
    s.limitedBy_withBuses buses buses
  rw [limited]
  generalize s.limitedBy buses = reduction
  rfl

theorem State.closedBuses_get (s : State) (frames : List Frame) {b : Nat} (hb : b < 25) :
    tget (s.closedBuses frames) b Bus.reset = closeBus (s.bus b) ((List.range 64).map (s.pathSum frames b)) := by
  rw [State.closedBuses, tget_ofFn _ _ hb, s.busSums_eq]

theorem State.limitedBy_get (s : State) (buses : Vector Bus 25) {m : Nat} (h1 : 1 ≤ m) (h2 : m ≤ 16) :
    tget (s.limitedBy buses) (m - 1) 0 = limiterStep (s.mix m).ceiling (s.mix m).attack (s.mix m).release
      (peakOf (tget buses (m + 7) Bus.reset).out) (tget s.lv.reduction (m - 1) 0) := by
  obtain ⟨n, rfl⟩ : ∃ n, m = n + 1 := ⟨m - 1, by omega⟩
  exact tget_ofFn _ _ (by omega)

theorem State.computePeriod_bus (h : s.ml.part = .running) (frames : List Frame) {b : Nat} (hb : b < 25) :
    (s.computePeriod frames).bus b = closeBus (s.bus b) ((List.range 64).map (s.pathSum frames b)) := by
  rw [State.computePeriod_running h]
  exact s.closedBuses_get frames hb

theorem State.computePeriod_carried (h : s.ml.part = .running) (frames : List Frame) :
    Carried s (s.computePeriod frames) where
  frame := by rw [State.computePeriod_running h]
  bus b hb := by
    rw [State.computePeriod_bus h frames hb]
    rfl

/-! ### The period formed -/

theorem State.terms_congr (h : t.lv = s.lv) (b : Nat) (x : Contrib) : t.terms b x = s.terms b x := by
  simp only [State.terms, h]

theorem State.talkTerms_congr (h : t.lv = s.lv) (hf : t.fb = s.fb) (m : Nat) : t.talkTerms m = s.talkTerms m := by
  simp only [State.talkTerms, State.mix, h, hf]

/-- The gains of a period that is not the closing one, in the terms of a state with the same levels (01, R12; 02,
R35, R40). -/
theorem State.formPeriod_bus {b : Nat} (hb : b < 25) (hm : t.lv = s.lv) :
    (s.formPeriod false).bus b = { s.bus b with
      list := (s.bus b).list.map fun x => { x with path := ⟨x.path.gn,
        (formGain (s.sourceMuted x.source || (s.bus b).mute) (t.terms b x)).1⟩ }
      tails := ((s.bus b).tails.filter fun x => !x.falling).map fun x => ⟨x.source, ⟨x.path.gn, 0⟩, true⟩
      clamp := (s.bus b).clamp || (isFoldback b && (s.talkGain (b - 7)).2) ||
        (s.bus b).list.any fun x => (formGain (s.sourceMuted x.source || (s.bus b).mute) (t.terms b x)).2 } := by
  have formed : (s.formPeriod false).bus b = s.formBus false b := tget_ofFn _ _ hb
  rw [formed]
  simp only [State.terms_congr hm]
  simp [State.formBus, State.contribGain, Path.next, mixOfBus]

end

end Sys2Proof.Machine
end

section
/-! PROOFS. A control period in which no fade ends (01, R8, R12, R18; 02, R35–R41; 05, R108; 06, R124, R125). -/

namespace Sys2Proof.Machine

section
variable {s t a v : State}

/-! ### The row -/

theorem exec_controlPeriod (s : State) :
    exec .controlPeriod s = .next (if s.periodDue then s.controlPeriod.settle else s).granted := rfl

theorem State.periodDue_eq (h : s.ml.part = .running) : s.periodDue = decide (s.mx.nextPeriod ≤ s.ck.now) := by
  simp [State.periodDue, State.running, h]

/-- The state with the period that has ended computed; at the first boundary none has (02, R37). -/
def State.closed (s : State) : State := if s.ck.now = 0 then s else s.computePeriod s.mx.frames.dropLast

theorem State.formPeriod_lv (s : State) : (s.formPeriod false).lv = s.lv := by simp only [State.formPeriod]

theorem State.formPeriod_nextPeriod (s : State) : (s.formPeriod false).mx.nextPeriod = s.mx.nextPeriod := by
  simp only [State.formPeriod]

/-- The state with the period that begins formed, its boundary passed and the frames of the one before gone. -/
def State.opened (s : State) : State :=
  { s.formPeriod false with mx := { (s.formPeriod false).mx with
    nextPeriod := s.mx.nextPeriod + 64, frames := s.mx.frames.drop (s.mx.frames.length - 1) } }

theorem State.closed_carried (h : s.ml.part = .running) : Carried s s.closed := by
  unfold State.closed
  split
  · exact .refl s
  · exact State.computePeriod_carried h _

theorem State.inStore.carried (c : Carried s a) {x : Target} (h : s.inStore x) : a.inStore x := by
  refine ⟨h.1, fun b e hx => ?_⟩
  have hb : b < 25 := by
    have := h.1
    simp [hx, Target.wf] at this
    exact this.1
  rw [State.contrib, c.bus b hb]
  exact h.2 b e hx

theorem Carried.fades (c : Carried s a) : a.lv.fades = s.lv.fades := by rw [c.frame]

theorem State.Moving.carried (c : Carried s a) (h : s.Moving) : a.Moving := by
  constructor <;> rw [c.fades]
  · exact h.apart
  · exact fun f hf => (h.store f hf).carried c
  · exact h.going

/-- A control period while RUNNING: the period that has ended is closed, the fades step, and the period that begins
is opened. -/
theorem State.controlPeriod_running (h : s.ml.part = .running) (c : Carried s s.closed)
    (k : Stepped s.closed s.closed.stepFades) : s.controlPeriod = s.closed.stepFades.opened := by
  have running : s.closed.running = true := by
    rw [State.running, c.frame, h]
    rfl
  have closing : s.closing = false := by simp [State.closing, h]
  have ends : s.closingEnds = false := by simp [State.closingEnds, h]
  have whole : s.controlPeriod = (fun w : State => ({ w with mx := { w.mx with
      nextPeriod := w.mx.nextPeriod + 64, frames := s.mx.frames.drop (s.mx.frames.length - 1)
      closingDone := w.mx.closingDone || s.closingEnds } } : State))
        ((if s.closed.running then s.closed.stepFades else s.closed).formPeriod s.closing) := rfl
  have frames : s.closed.stepFades.mx.frames = s.mx.frames := by rw [k.frame, c.frame]
  rw [whole, closing, ends, if_pos running]
  simp only [Bool.or_false]
  rw [← frames]
  generalize s.closed.stepFades = v
  rw [State.opened, ← v.formPeriod_nextPeriod]

/-! ### What is opened -/

theorem State.opened_lv (v : State) : v.opened.lv = v.lv := by
  simp only [State.opened, State.formPeriod_lv]

theorem State.bus_opened (v : State) (b : Nat) : v.opened.bus b = (v.formPeriod false).bus b := by
  simp only [State.bus, State.opened]

theorem State.opened_bus (v : State) {b : Nat} (hb : b < 25) : v.opened.bus b = { v.bus b with
    list := (v.bus b).list.map fun x => { x with path := ⟨x.path.gn,
      (formGain (v.sourceMuted x.source || (v.bus b).mute) (v.opened.terms b x)).1⟩ }
    tails := ((v.bus b).tails.filter fun x => !x.falling).map fun x => ⟨x.source, ⟨x.path.gn, 0⟩, true⟩
    clamp := (v.bus b).clamp || (isFoldback b && (v.talkGain (b - 7)).2) ||
      (v.bus b).list.any fun x => (formGain (v.sourceMuted x.source || (v.bus b).mute) (v.opened.terms b x)).2 } :=
  (v.bus_opened b).trans (State.formPeriod_bus hb v.opened_lv)

theorem State.opened_talkPath (v : State) {m : Nat} (h1 : 1 ≤ m) (h2 : m ≤ 16) :
    tget v.opened.mx.talkPaths (m - 1) Path.zero =
      ⟨(tget v.mx.talkPaths (m - 1) Path.zero).gn, (v.talkGain m).1⟩ := by
  obtain ⟨n, rfl⟩ : ∃ n, m = n + 1 := ⟨m - 1, by omega⟩
  exact tget_ofFn _ _ (by omega)

theorem State.opened_zone (v : State) {z : Nat} (h1 : 1 ≤ z) (h2 : z ≤ 32) :
    v.opened.zone z = v.formZone false (z - 1) := tget_ofFn _ _ (by omega)

/-- The page that holds a zone, its gate noted as it stands at the start of the period (06, R125). -/
theorem State.opened_holderPage (v : State) (z : Zone) :
    v.opened.holderPage z = (v.holderPage z).map fun p => { p with gateAtStart := p.gate } := by
  cases h : z.holder with
  | none => simp only [State.holderPage, h, Option.map_none]
  | some id =>
    simp only [State.holderPage, h]
    show (v.rc.pages.map fun p => { p with gateAtStart := p.gate }).find? _ = _
    rw [List.find?_map]
    rfl

theorem State.opened_frame (v : State) : v.opened = { v with
    mx := { v.mx with
      buses := v.opened.mx.buses, talkPaths := v.opened.mx.talkPaths, nextPeriod := v.mx.nextPeriod + 64
      frames := v.mx.frames.drop (v.mx.frames.length - 1) }
    rc := { v.rc with zones := v.opened.rc.zones, pages := v.opened.rc.pages } } := by
  simp only [State.opened, State.formPeriod]

theorem State.opened_pages (v : State) :
    v.opened.rc.pages = v.rc.pages.map fun p => { p with gateAtStart := p.gate } := by
  simp only [State.opened, State.formPeriod]

/-- The gains formed leave every level where it stands (01, R12). -/
theorem State.opened_levelOf (v : State) {x : Target} (hx : x.wf = true) : v.opened.levelOf x = v.levelOf x := by
  cases x with
  | crosspoint b e =>
    have hb : b < 25 := by
      simp [Target.wf] at hx
      exact hx.1
    simp only [State.levelOf, State.contrib, findContrib, v.opened_bus hb, List.find?_map, Function.comp_def]
    cases (v.bus b).list.find? fun y : Contrib => y.source == e <;> rfl
  | _ => simp only [State.levelOf, v.opened_lv]

/-! ### The three parts together -/

theorem State.stepped_congr (h : a.lv.fades = s.lv.fades) (x : Target) (y : Level) :
    a.stepped x y = s.stepped x y := by
  simp only [State.stepped, State.fadeOn, h]

theorem Carried.levelOf (c : Carried s a) {x : Target} (hx : x.wf = true) : a.levelOf x = s.levelOf x := by
  have lv : a.lv = { s.lv with reduction := a.lv.reduction } := by rw [c.frame]
  cases x with
  | crosspoint b e =>
    have hb : b < 25 := by
      simp [Target.wf] at hx
      exact hx.1
    simp only [State.levelOf, State.contrib]
    rw [c.bus b hb]
  | _ =>
    simp only [State.levelOf]
    rw [lv]

/-- The state `v` in which the period that has ended, `a`, is closed and the fades have stepped, against the state
`s` before. -/
structure Taken (s a v : State) : Prop where
  frame : v = { s with
    lv := v.lv, mx := { s.mx with buses := v.mx.buses }, rc := { s.rc with pages := a.rc.pages } }
  fades : v.lv.fades = s.lv.fades.map bumpFade
  reduction : v.lv.reduction = a.lv.reduction
  bus : ∀ b, b < 25 → v.bus b = { s.bus b with
    list := (s.bus b).list.map fun x => { x with level := s.stepped (.crosspoint b x.source) x.level }
    out := (a.bus b).out, clip := (a.bus b).clip, peak := (a.bus b).peak }
  level : ∀ x : Target, x.wf = true → v.levelOf x = s.stepped x (s.levelOf x)

theorem Carried.taken (c : Carried s a) (k : Stepped a v) : Taken s a v where
  frame := k.frame.trans (by rw [k.frame, c.frame])
  fades := by rw [k.fades, c.fades]
  reduction := by rw [k.frame]
  bus b hb := by
    have stepped := fun x y => State.stepped_congr c.fades x y
    simp only [k.bus b hb, stepped]
    rw [c.bus b hb]
  level x hx := by rw [k.level x hx, State.stepped_congr c.fades, c.levelOf hx]

section
variable (k : Taken s a v)
include k

theorem Taken.sourceMuted (c : Nat) : v.sourceMuted c = s.sourceMuted c := by
  rw [k.frame]
  rfl

theorem Taken.talkGain {m : Nat} (h1 : 1 ≤ m) (h2 : m ≤ 16) : v.talkGain m =
    formGain (!(s.mix m).gate || s.sourceMuted 122 || (s.bus (m + 7)).mute) (v.opened.talkTerms m) := by
  have mix : v.mix m = s.mix m := by
    rw [k.frame]
    rfl
  have mute : (v.bus (m + 7)).mute = (s.bus (m + 7)).mute := by rw [k.bus _ (by omega)]
  have fb : v.opened.fb = v.fb := by rw [v.opened_frame]
  rw [State.talkGain, mix, k.sourceMuted, busOfMix, mute, State.talkTerms_congr v.opened_lv fb]

theorem Taken.list {b : Nat} (hb : b < 25) : (v.opened.bus b).list = (s.bus b).list.map fun x =>
    { x with
      level := s.stepped (.crosspoint b x.source) x.level
      path := ⟨x.path.gn, (formGain (s.sourceMuted x.source || (s.bus b).mute)
        (v.opened.terms b { x with level := s.stepped (.crosspoint b x.source) x.level })).1⟩ } := by
  rw [v.opened_bus hb]
  simp only [k.bus b hb, k.sourceMuted, List.map_map, Function.comp_def]

/-- What the formation of the gains leaves of a bus as the period that has ended left it (02, R37, R39, R41). -/
theorem Taken.carried {b : Nat} (hb : b < 25) : (v.opened.bus b).out = (a.bus b).out ∧
    (v.opened.bus b).clip = (a.bus b).clip ∧ (v.opened.bus b).peak = (a.bus b).peak := by
  rw [v.opened_bus hb, k.bus b hb]
  exact ⟨rfl, rfl, rfl⟩

theorem Taken.mute {b : Nat} (hb : b < 25) : (v.opened.bus b).mute = (s.bus b).mute := by
  rw [v.opened_bus hb, k.bus b hb]

/-- A tail falls to silence in one period, and is gone in the next (02, R35). -/
theorem Taken.tails {b : Nat} (hb : b < 25) : (v.opened.bus b).tails =
    ((s.bus b).tails.filter fun x => !x.falling).map fun x => ⟨x.source, ⟨x.path.gn, 0⟩, true⟩ := by
  rw [v.opened_bus hb, k.bus b hb]

/-- The clamp flag of a bus tells that a path of its list, or its talkback path, was clamped (02, R40). -/
theorem Taken.clamp {b : Nat} (hb : b < 25) : (v.opened.bus b).clamp = ((s.bus b).clamp ||
    ((v.opened.bus b).list.any fun x =>
      (formGain (s.sourceMuted x.source || (s.bus b).mute) (v.opened.terms b x)).2) ||
    (isFoldback b && (formGain (!(s.mix (b - 7)).gate || s.sourceMuted 122 || (s.bus (b - 7 + 7)).mute)
      (v.opened.talkTerms (b - 7))).2)) := by
  have talk : (isFoldback b && (v.talkGain (b - 7)).2) =
      (isFoldback b && (formGain (!(s.mix (b - 7)).gate || s.sourceMuted 122 || (s.bus (b - 7 + 7)).mute)
        (v.opened.talkTerms (b - 7))).2) := by
    cases hf : isFoldback b with
    | false => rfl
    | true =>
      simp only [isFoldback, Bool.and_eq_true, decide_eq_true_eq] at hf
      rw [k.talkGain (by omega) (by omega)]
  rw [k.list hb, v.opened_bus hb]
  simp only [k.bus b hb, k.sourceMuted, talk, List.any_map, Function.comp_def]
  exact Bool.or_right_comm _ _ _

theorem Taken.zone (z : Nat) : v.zone z = s.zone z := by
  rw [k.frame]
  rfl

theorem Taken.opened_frame : v.opened = { s with
    lv := v.opened.lv, mx := { s.mx with
      buses := v.opened.mx.buses, talkPaths := v.opened.mx.talkPaths, nextPeriod := s.mx.nextPeriod + 64
      frames := s.mx.frames.drop (s.mx.frames.length - 1) }
    rc := { s.rc with zones := v.opened.rc.zones, pages := v.opened.rc.pages } } := by
  have opened := v.opened_frame
  rw [v.opened_lv]
  generalize v.opened = t at opened ⊢
  rw [k.frame] at opened
  exact opened

/-- A control period changes levels, the mix and the relay, and there no more than it computes. -/
theorem Taken.opened_parts :
    v.opened.mx = { s.mx with
      buses := v.opened.mx.buses, talkPaths := v.opened.mx.talkPaths, nextPeriod := s.mx.nextPeriod + 64
      frames := s.mx.frames.drop (s.mx.frames.length - 1) } ∧
    v.opened.rc = { s.rc with zones := v.opened.rc.zones, pages := v.opened.rc.pages } ∧
    v.opened = { s with lv := v.opened.lv, mx := v.opened.mx, rc := v.opened.rc } := by
  have opened := k.opened_frame
  generalize v.opened = t at opened ⊢
  rw [opened]
  exact ⟨rfl, rfl, rfl⟩

/-- Each page's gate is noted as it stands at the start of the period. -/
theorem Taken.pages : v.opened.rc.pages = a.rc.pages.map fun p => { p with gateAtStart := p.gate } := by
  have pages : v.rc.pages = a.rc.pages := by rw [k.frame]
  rw [v.opened_pages, pages]

theorem Taken.talkPath {m : Nat} (h1 : 1 ≤ m) (h2 : m ≤ 16) :
    tget v.opened.mx.talkPaths (m - 1) Path.zero = ⟨(tget s.mx.talkPaths (m - 1) Path.zero).gn,
      (formGain (!(s.mix m).gate || s.sourceMuted 122 || (s.bus (m + 7)).mute) (v.opened.talkTerms m)).1⟩ := by
  have paths : v.mx.talkPaths = s.mx.talkPaths := by rw [k.frame]
  rw [v.opened_talkPath h1 h2, k.talkGain h1 h2, paths]

/-- The levels after a control period: a target with a fade takes its step, every other stands (01, R18). -/
theorem Taken.levelOf {x : Target} (hx : x.wf = true) : v.opened.levelOf x = s.stepped x (s.levelOf x) :=
  (v.opened_levelOf hx).trans (k.level x hx)

/-- What a period that was computed leaves: the outputs, clips and peaks of the buses, the limiters and the page
audio (02, R37–R41; 05, R108; 06, R125). -/
theorem Taken.mixed (h : s.ml.part = .running) (frames : List Frame) (ha : a = s.computePeriod frames) :
    (∀ b, b < 25 →
      (∀ j, j < 64 → (v.opened.bus b).out.getD j 0 = max (-8388608) (min 8388607 (s.pathSum frames b j))) ∧
      (v.opened.bus b).clip = (if (List.range 64).any fun j =>
          decide (s.pathSum frames b j < -8388608 ∨ 8388607 < s.pathSum frames b j)
        then min ((s.bus b).clip + 1) 65535 else (s.bus b).clip) ∧
      (v.opened.bus b).peak = max (s.bus b).peak (peakOf (v.opened.bus b).out)) ∧
    (∀ m, 1 ≤ m → m ≤ 16 → tget v.opened.lv.reduction (m - 1) 0 =
      limiterStep (s.mix m).ceiling (s.mix m).attack (s.mix m).release (peakOf (v.opened.bus (m + 7)).out)
        (tget s.lv.reduction (m - 1) 0)) ∧
    v.opened.rc.pages = s.rc.pages.map fun p => { p with gateAtStart := p.gate, audio := pageAudio p frames } := by
  have bus : ∀ b, b < 25 → a.bus b = closeBus (s.bus b) ((List.range 64).map (s.pathSum frames b)) := fun b hb => by
    rw [ha, State.computePeriod_bus h frames hb]
  refine ⟨fun b hb => ?_, fun m h1 h2 => ?_, ?_⟩
  · obtain ⟨out, clip, peak⟩ := k.carried hb
    rw [out, clip, peak, bus b hb]
    exact ⟨fun j hj => closeBus_out _ _ hj, closeBus_clip _ _, rfl⟩
  · obtain ⟨out, -, -⟩ := k.carried (b := m + 7) (by omega)
    have limited : a.lv.reduction = s.limitedBy a.mx.buses := by rw [ha, State.computePeriod_running h]
    rw [v.opened_lv, k.reduction, out, limited]
    exact s.limitedBy_get _ h1 h2
  · have pages : a.rc.pages = s.rc.pages.map fun p => { p with audio := pageAudio p frames } := by
      rw [ha, State.computePeriod_running h]
    rw [k.pages, pages, List.map_map]
    rfl

/-- A zone computes its output from RF and its page, along the paths of the new gains (06, R124). -/
theorem Taken.zoneFormed {z : Nat} (h1 : 1 ≤ z) (h2 : z ≤ 32) : ∃ prog page : Path,
    prog.gp = (s.zone z).progPath.gn ∧ page.gp = (s.zone z).pagePath.gn ∧
    page.gn = (match v.opened.holderPage (s.zone z) with
      | some p => (formGain (p.st != .onAir) [(s.zone z).pageLevel]).1
      | none => 0) ∧
    prog.gn = (formGain (!(s.zone z).programme) [v.opened.levelOf (.zoneLevel z), v.opened.levelOf (.duck z),
      v.opened.levelOf (.zoneInterlock z)]).1 ∧
    v.opened.zone z = { s.zone z with
      progPath := prog, pagePath := page, sent := (s.zone z).out,
      out := (List.range 64).map fun j => saturate (scale ((v.opened.bus 24).out.getD j 0) (rampGain prog j) +
        scale ((match v.opened.holderPage (s.zone z) with | some p => p.audio | none => silence).getD j 0)
          (rampGain page j)) } := by
  have zone : tget v.rc.zones (z - 1) Zone.reset = s.zone z := k.zone z
  have out : (v.opened.bus 24).out = (v.bus 24).out := by rw [v.opened_bus (by omega)]
  refine ⟨⟨(s.zone z).progPath.gn, v.programmeGain (z - 1) (s.zone z)⟩,
    ⟨(s.zone z).pagePath.gn, v.pageGain (s.zone z)⟩, rfl, rfl, ?_, ?_, ?_⟩
  · rw [v.opened_holderPage, State.pageGain]
    cases v.holderPage (s.zone z) <;> rfl
  · simp only [State.programmeGain, State.levelOf, v.opened_lv]
  · rw [v.opened_zone h1 h2, out, v.opened_holderPage, State.formZone, zone]
    cases v.holderPage (s.zone z) <;> rfl

end

end

/-- Settles O13: the period that has ended is closed, the fades step, and the period that begins is opened. -/
theorem controlPeriodStepsFades : Obligations.ControlPeriodStepsFades := by
  refine fun s hrun hq => ⟨fun due apart going => ?_, fun early => ?_⟩
  · have moving : s.Moving := ⟨apart, fun f hf => ⟨(going f hf).1, (going f hf).2.2⟩, fun f hf => (going f hf).2.1⟩
    have c := State.closed_carried hrun
    have k := (moving.carried c).stepFades
    have run := exec_controlPeriod s
    rw [State.periodDue_eq hrun, if_pos (by simpa using due), State.controlPeriod_running hrun c k] at run
    have taken := c.taken k
    generalize ha : s.closed = a at c taken run
    generalize a.stepFades = v at taken run
    obtain ⟨mx, rc, rest⟩ := taken.opened_parts
    have quiet : v.opened.notices = [] := by rw [rest]; exact hq
    rw [State.settle_quiet quiet] at run
    refine ⟨v.opened, run, ?_, fun f hf => ?_, fun x hx hn => ?_, fun started => ?_, fun first => ?_,
      fun b hb => ⟨taken.mute hb, taken.list hb, taken.tails hb, taken.clamp hb⟩,
      fun m h1 h2 => taken.talkPath h1 h2, fun z h1 h2 => taken.zoneFormed h1 h2, mx, rc, rest⟩
    · rw [v.opened_lv, taken.fades]
      rfl
    · rw [taken.levelOf (going f hf).1, moving.stepped_target hf]
    · rw [taken.levelOf hx, State.stepped_untouched hn]
    · exact taken.mixed hrun _ (ha.symm.trans (if_neg (by omega)))
    · obtain rfl : s = a := (if_pos first).symm.trans ha
      exact ⟨fun b hb => taken.carried hb, by rw [v.opened_lv, taken.reduction], taken.pages⟩
  · rw [exec_controlPeriod, State.periodDue_eq hrun, if_neg (by simpa using early)]

end Sys2Proof.Machine
end

section
/-! PROOFS. SET_SOURCE, SET_BUS and SET_CONTRIB (02, R31–R33, R44–R46). -/

namespace Sys2Proof.Machine

section
variable {s : State} {r : Link}

/-! ### SET_SOURCE and SET_BUS -/

theorem State.applySetSource_ok {c m : Nat} (hc : c ≤ 122) (hm : m ≤ 1) :
    s.applySetSource c m =
      .ok ({ s with mx := { s.mx with mute := s.mx.mute.setIfInBounds c (decide (m = 0)) } }, false) :=
  if_neg (by omega)

theorem State.applySetSource_refused {c m : Nat} (h : 122 < c ∨ 1 < m) :
    s.applySetSource c m = .error { res := .range } := if_pos h

/-- The mute codes of SET_BUS: the leave mask counts as code 0, which leaves the flag (log 15). -/
theorem muteCode_reads {m : Option Nat} (h : m = none ∨ m = some 0 ∨ m = some 1 ∨ m = some 2) (old : Bool) :
    m.getD 0 ≤ 2 ∧ (if m.getD 0 = 0 then old else m.getD 0 == 1) =
      if m = some 1 then true else if m = some 2 then false else old := by
  rcases h with rfl | rfl | rfl | rfl <;> exact ⟨by decide, rfl⟩

theorem State.applySetBus_ok {b k : Nat} {m : Option Nat} (hb : b ≤ 24)
    (hm : m = none ∨ m = some 0 ∨ m = some 1 ∨ m = some 2) (hk : k ≤ 1) :
    s.applySetBus b m k = .ok (s.setBus b { s.bus b with
      mute := if m = some 1 then true else if m = some 2 then false else (s.bus b).mute,
      clip := if k = 0 then 0 else (s.bus b).clip }, false) := by
  obtain ⟨code, reads⟩ := muteCode_reads hm (s.bus b).mute
  rw [State.applySetBus, if_neg (by omega)]
  simp only [reads]

theorem State.applySetBus_refused {b k : Nat} {m : Option Nat} (h : 24 < b ∨ (∃ x, m = some x ∧ 2 < x) ∨ 1 < k) :
    s.applySetBus b m k = .error { res := .range } := by
  refine if_pos (h.imp_right (Or.imp_left ?_))
  rintro ⟨x, rfl, hx⟩
  exact hx

/-- Settles O34: each command writes its flag or its bus where its numbers and codes are in range. -/
theorem setSourceAndSetBus : Obligations.SetSourceAndSetBus := by
  intro s r h
  refine ⟨fun c m hc hm => ?_, fun c m bad => ?_, fun b m k hb hm hk => ?_, fun b m k bad => ?_⟩
  · refine h.exec_finish (t := { s with mx := _ }) rfl ?_ (.refl _) h.quiet
    show s.answer r (s.applySetSource c m) = _
    rw [State.applySetSource_ok hc hm]
    rfl
  · refine h.exec_refused rfl ?_
    show s.answer r (s.applySetSource c m) = _
    rw [State.applySetSource_refused bad]
    rfl
  · refine h.exec_finish (t := s.setBus b _) rfl ?_ (.refl _) h.quiet
    show s.answer r (s.applySetBus b m k) = _
    rw [State.applySetBus_ok hb hm hk]
    rfl
  · refine h.exec_refused rfl ?_
    show s.answer r (s.applySetBus b m k) = _
    rw [State.applySetBus_refused bad]
    rfl

/-! ### SET_CONTRIB -/

/-- SET_CONTRIB of a source that the list does not hold, at once: an insertion, or FAILED_FULL. -/
theorem State.applySetContrib_absent {b c tap law : Nat} {v : Int} {pre cut : Bool} (hl : law ≤ 2) (hb : b ≤ 24)
    (hc : busAccepts b c = true) (ht : tap ≤ 1) (hp : tapFor b tap = (pre, cut)) (h1 : -1024 ≤ v) (h2 : v ≤ 128)
    (hx : s.contrib b c = none) (o : Owner) :
    s.applySetContrib b c v tap 0 law o =
      if 64 ≤ (s.bus b).list.length then .error { res := .full, clamped := cut }
      else .ok (s.insertEntry b c v pre, cut) := by
  obtain ⟨lw, hlw⟩ := lawOf_some hl
  simp [State.applySetContrib, hlw, Nat.not_lt.2 hb, hc, Nat.not_lt.2 ht, hp, readLevel_inside h1 h2,
    readDuration_inside, hx, Config.listCapacity]

theorem State.applySetContrib_refused {b c : Nat} {law : Nat} (hl : law ≤ 2) (h : 24 < b ∨ busAccepts b c = false)
    (v : Int) (tap ms : Nat) (o : Owner) : s.applySetContrib b c v tap ms law o = .error { res := .range } := by
  obtain ⟨lw, hlw⟩ := lawOf_some hl
  have bad : b > 24 ∨ (!busAccepts b c) = true ∨ tap > 1 := h.imp_right fun hc => .inl (by rw [hc]; rfl)
  simp only [State.applySetContrib, hlw, if_pos bad]

/-- A house bus accepts every source of the mix (02, R31). -/
theorem busAccepts_house {b c : Nat} (hb : b ≤ 7) (hc : c ≤ 122) : busAccepts b c = true := by
  rw [busAccepts, if_pos (by omega)]
  exact decide_eq_true hc

/-- A source outside the range of its bus is refused (02, R31). -/
theorem busAccepts_outside {b c : Nat} (h : 8 ≤ b ∧ b ≤ 23 ∧ 121 < c ∨ b ≤ 7 ∧ 122 < c ∨ 135 < c) :
    busAccepts b c = false := by
  unfold busAccepts
  split
  · exact decide_eq_false (by omega)
  · split
    · exact decide_eq_false (by omega)
    · simp; omega

theorem tapFor_foldback {b : Nat} (h1 : 8 ≤ b) (h2 : b ≤ 23) : tapFor b 1 = (true, false) := by
  simp [tapFor, isFoldback, h1, h2]

theorem tapFor_house {b : Nat} (h : b ≤ 7) : tapFor b 1 = (false, true) := by
  have hf : ¬ 8 ≤ b := by omega
  simp [tapFor, isFoldback, hf]

/-! ### The order of a contribution list -/

theorem insertContrib_perm (x : Contrib) (l : List Contrib) : (insertContrib x l).Perm (x :: l) := by
  induction l with
  | nil => exact .refl _
  | cons y ys ih =>
    rw [insertContrib]
    split
    · exact (ih.cons y).trans (.swap x y ys)
    · exact .refl _

/-- Sources ascend along a list, and still do after an insertion of a source that it does not hold (02, R32). -/
theorem insertContrib_ascends {x : Contrib} {l : List Contrib} (h : (l.map (·.source)).Pairwise (· < ·))
    (hx : ∀ y ∈ l, y.source ≠ x.source) : ((insertContrib x l).map (·.source)).Pairwise (· < ·) := by
  rw [List.pairwise_map] at h ⊢
  induction l with
  | nil => exact List.pairwise_singleton _ _
  | cons y ys ih =>
    obtain ⟨below, rest⟩ := List.pairwise_cons.1 h
    rw [insertContrib]
    split
    · rename_i lower
      refine List.pairwise_cons.2 ⟨fun z hz => ?_, ih rest fun z hz => hx z (List.mem_cons_of_mem y hz)⟩
      rcases List.mem_cons.1 ((insertContrib_perm x ys).mem_iff.1 hz) with rfl | hz
      · exact lower
      · exact below z hz
    · rename_i notLower
      have first : x.source < y.source := by
        have := hx y List.mem_cons_self
        omega
      refine List.pairwise_cons.2 ⟨fun z hz => ?_, h⟩
      rcases List.mem_cons.1 hz with rfl | hz
      · exact first
      · exact first.trans (below z hz)

/-- Settles O35: an absent source is inserted while its list has a place, at the tap its bus allows; and an
insertion keeps the ascending order. -/
theorem setContribInserts : Obligations.SetContribInserts := by
  refine ⟨fun s r b c law v h hl h1 h2 hx => ?_, fun x l ho hx => ⟨insertContrib_ascends ho hx,
    insertContrib_perm x l⟩⟩
  refine ⟨fun b1 b2 hc hn => ?_, fun hb hc hn => ?_, fun hb hc hn => ?_, fun bad => ?_⟩
  · refine h.exec_finish (t := s.setBus b _) rfl ?_ (.refl _) h.quiet
    show s.answer r (s.applySetContrib b c v 1 0 law .host) = _
    rw [State.applySetContrib_absent hl (by omega) (busAccepts_source b2 hc) le_rfl (tapFor_foldback b1 b2) h1 h2 hx,
      if_neg (Nat.not_le.2 hn)]
    rfl
  · refine h.exec_finish (t := s.setBus b _) rfl ?_ (.refl _) h.quiet
    show s.answer r (s.applySetContrib b c v 1 0 law .host) = _
    rw [State.applySetContrib_absent hl (by omega) (busAccepts_house hb hc) le_rfl (tapFor_house hb) h1 h2 hx,
      if_neg (Nat.not_le.2 hn)]
    rfl
  · refine h.exec_refused rfl ?_
    show s.answer r (s.applySetContrib b c v 0 0 law .host) = _
    rw [State.applySetContrib_absent hl (by omega) (busAccepts_source hb hc) (Nat.zero_le _) rfl h1 h2 hx, if_pos hn]
    rfl
  · refine h.exec_refused rfl ?_
    show s.answer r (s.applySetContrib b c v 0 0 law .host) = _
    rw [State.applySetContrib_refused hl (bad.imp_right busAccepts_outside)]
    rfl

end

end Sys2Proof.Machine
end

section
/-! PROOFS. The chain reader takes a record and hands its command on (11, R191, R192, R195; 02, R44). -/

namespace Sys2Proof.Machine

/-! ### Records -/

/-- A command is carried out for the record it was decoded from (11, R192). -/
theorem decodeRecord_recordLink {l : Link} {b : List Byte} {i : Instr} (h : decodeRecord l b = some i) :
    recordLink i = some l := by
  unfold decodeRecord decodeCommand at h
  split at h
  · unfold decodeLow at h
    split at h <;> cases h <;> rfl
  · split at h
    · unfold decodeMid at h
      split at h <;> cases h <;> rfl
    · unfold decodeHigh at h
      split at h <;> cases h <;> rfl

/-- A field of what is left of a run of bytes is a field of the whole (11, R189). -/
theorem fieldAt_drop (b : List Byte) (k i n : Nat) : fieldAt (b.drop k) i n = fieldAt b (k + i) n := by
  rw [fieldAt, fieldAt, List.drop_drop]

theorem decodeRecord_setSource {l : Link} {b : List Byte} (h : fieldAt b 12 2 = 4) :
    decodeRecord l b = some (.setSource l (fieldAt b 32 1) (fieldAt b 33 1)) := by
  rw [decodeRecord, h]
  show some (Instr.setSource l (fieldAt (b.drop 32) 0 1) (fieldAt (b.drop 32) 1 1)) = _
  rw [fieldAt_drop, fieldAt_drop]

/-! ### The hand-over -/

/-- `s` with the one read outstanding returned and the record at `l` taken: TAKEN is written, the reader's position
is there, and a look is owed (11, R192). -/
def State.takenAt (s : State) (l : Link) : State :=
  { s with ml := { s.ml with
      slots := [], position := some l, lookOwed := true, reader := .waiting,
      writes := s.ml.writes ++ [⟨[(s.ml.address l + 8, [2])]⟩] } }

section
variable {s : State} {l link : Link} {addr : Nat} {b : List Byte}

/-- A command that leaves the reader waiting with a look owed, and a place in the in-flight table, is followed by
that look (11, R190, R192). -/
theorem State.handed_looks {t u : State} {f : State → State} (hf : f t = u) (hq : u.notices = [])
    (hp : u.ml.part = .running) (hi : u.ml.inflight.length < 8) (hr : u.ml.reader = .waiting)
    (hl : u.ml.lookOwed = true) :
    t.handed f = { u with ml := { u.ml with reader := .looking, lookOwed := false } } := by
  simp [State.handed, hf, State.settle_quiet hq, Ml.afterTake, Config.inflightCapacity, Nat.not_le.2 hi,
    Ml.beginLook, hp, hr, hl]

theorem State.takes_of (hp : s.ml.part = .running) (hi : s.ml.inflight.length < 8) : s.takes = true := by
  simp [State.takes, State.running, hp, hi, Config.inflightCapacity]

/-- The row of a record read that brings a POSTED record (11, R191). -/
theorem State.chainRecordReturn_posted (hp : s.ml.part = .running) (hi : s.ml.inflight.length < 8)
    (hs : s.ml.slots = [⟨.chainRecord l, addr, 128, link⟩]) (hr : s.ml.reader = .reading l)
    (posted : fieldAt b 8 1 = 1) :
    s.chainRecordReturn (.data b) = ({ s with ml := { s.ml with slots := [] } } : State).takeRecord l b := by
  have freed : s.ml.freeSlot (.chainRecord l) = { s.ml with slots := [] } := by simp [Ml.freeSlot, hs]
  simp [State.chainRecordReturn, hs, hr, State.takes_of hp hi, posted, freed]

/-- A record whose state may be written is taken, and the command it carries is handed on (11, R192). -/
theorem State.takeRecord_some {i : Instr} (hd : decodeRecord l b = some i)
    (ha : s.ml.allows (linkPlus l 8) 1 true = true) :
    ({ s with ml := { s.ml with slots := [] } } : State).takeRecord l b =
      (s.takenAt l).handed (State.runCommand i) := by
  rw [State.takeRecord, if_neg (by rw [Bool.not_eq_true']; exact ne_false_of_eq_true ha), hd]
  rfl

/-- A record of an unknown kind is taken and finishes FAILED_UNKNOWN (11, R192). -/
theorem State.takeRecord_none (hd : decodeRecord l b = none) (ha : s.ml.allows (linkPlus l 8) 1 true = true) :
    ({ s with ml := { s.ml with slots := [] } } : State).takeRecord l b =
      (s.takenAt l).handed fun s => s.finish l .unknown := by
  rw [State.takeRecord, if_neg (by rw [Bool.not_eq_true']; exact ne_false_of_eq_true ha), hd]
  rfl

/-- A taken record whose command only finishes it: the look owed begins (11, R190, R192). -/
theorem State.takenAt_handed {t : State} {f : State → State} {res : Result}
    (hf : f (s.takenAt l) = t.finish l res) (hm : t.ml = (s.takenAt l).ml) (hq : t.notices = [])
    (hp : s.ml.part = .running) (hi : s.ml.inflight.length < 8)
    (h9 : s.ml.allows (linkPlus l 9) 15 true = true) (h8 : s.ml.allows (linkPlus l 8) 1 true = true) :
    (s.takenAt l).handed f = { t with ml := { (t.outcome l res).ml with reader := .looking, lookOwed := false } } := by
  have done : t.finish l res = t.outcome l res :=
    t.finish_eq_outcome l res .none false (by rw [hm]; exact h9) (by rw [hm]; exact h8)
  refine State.handed_looks (u := t.outcome l res) (hf.trans done) ?_ ?_ ?_ ?_ ?_
  · exact hq
  · exact (congrArg Ml.part hm).trans hp
  · show t.ml.inflight.length < 8
    rw [hm]
    exact hi
  · exact congrArg Ml.reader hm
  · exact congrArg Ml.lookOwed hm

end

/-- Settles O25: the record read hands the decoded command on, and a command that only finishes its record is
followed by the look owed. -/
theorem takenRecordRunsItsCommand : Obligations.TakenRecordRunsItsCommand := by
  intro s l link addr b hp hi hs hr posted ha
  have row : exec (.chainRecordReadComplete (.data b)) s =
      .next (({ s with ml := { s.ml with slots := [] } } : State).takeRecord l b).granted :=
    congrArg (fun t : State => Host.Outcome.next t.granted) (State.chainRecordReturn_posted hp hi hs hr posted)
  refine ⟨fun i hd => ?_, fun hd hq h9 => ?_, fun kind hc hm hq h9 => ?_⟩
  · have taken : exec i (s.takenAt l) = .next ((s.takenAt l).handed (State.runCommand i)).granted := by
      rw [exec_command (decodeRecord_recordLink hd), if_pos (State.takes_of (s := s.takenAt l) hp hi)]
    rw [row, State.takeRecord_some hd ha]
    exact taken.symm
  · rw [row, State.takeRecord_none hd ha, State.takenAt_handed (t := s.takenAt l) rfl rfl hq hp hi h9 ha]
    rfl
  · have writes : State.runCommand (.setSource l (fieldAt b 32 1) (fieldAt b 33 1)) (s.takenAt l) =
        State.finish { s.takenAt l with mx := { s.mx with
          mute := s.mx.mute.setIfInBounds (fieldAt b 32 1) (decide (fieldAt b 33 1 = 0)) } } l .ok := by
      show (s.takenAt l).answer l ((s.takenAt l).applySetSource _ _) = _
      rw [State.applySetSource_ok hc hm]
      rfl
    rw [row, State.takeRecord_some (decodeRecord_setSource kind) ha, State.takenAt_handed writes rfl hq hp hi h9 ha]
    rfl

end Sys2Proof.Machine
end

section
/-! PROOFS. STATUS_PAGE_WRITE (02, R41; 10, R185; 11, R199). -/

namespace Sys2Proof.Machine

/-- A table whose entries are all changed by one function, read inside. -/
theorem tget_map {α β : Type} {n i : Nat} (t : Vector α n) (f : α → β) (d : α) (e : β) (h : i < n) :
    tget (t.map f) i e = f (tget t i d) := by
  simp [tget, h]

theorem State.restartPeaks_bus (s : State) {b : Nat} (h : b < 25) :
    s.restartPeaks.bus b = { s.bus b with peak := 0 } :=
  tget_map s.mx.buses (fun u : Bus => ({ u with peak := 0 } : Bus)) Bus.reset Bus.reset h

section
variable {s : State} {c : Setup}

/-- The three writes of a page: the update count odd, the body, the update count even (11, R199). -/
def State.statusWrites (s : State) (c : Setup) : List BusWrite :=
  [⟨[(s.ml.address c.status, toLe 4 (s.ml.statusCount + 1))]⟩,
   ⟨s.statusBody.map fun x => (s.ml.address c.status + x.1, x.2)⟩,
   ⟨[(s.ml.address c.status, toLe 4 (s.ml.statusCount + 2))]⟩]

theorem State.writeStatus_allowed (hc : s.ml.setup = some c) (ha : s.ml.allows c.status 4096 true = true) :
    s.writeStatus = ({ s with ml := { s.ml with
      statusCount := (s.ml.statusCount + 2) % 2 ^ 32,
      writes := s.ml.writes ++ s.statusWrites c } } : State).restartPeaks := by
  simp [State.writeStatus, hc, ha, Ml.write, State.statusWrites]

theorem State.writeStatus_refused (hc : s.ml.setup = some c) (ha : s.ml.allows c.status 4096 true = false) :
    s.writeStatus = (s.windowFault c.status .status).restartPeaks := by
  simp [State.writeStatus, hc, ha]

/-- The row of a page that is due (11, R199). -/
theorem exec_statusPageWrite_due (hp : s.ml.part = .running) (hn : s.ml.nextStatus ≤ s.ck.now) :
    exec .statusPageWrite s = .next s.statusPage.granted := by
  have due : s.statusDue = true := by simp [State.statusDue, State.running, hp, hn]
  show Host.Outcome.next (if s.statusDue then s.statusPage else s).granted = _
  rw [if_pos due]

/-- After a page the next falls due one interval of the root block later (11, R199; 01, R4). -/
theorem State.statusPage_of {t : State} (hw : s.writeStatus = t) (hc : t.ml.setup = some c) :
    s.statusPage = { t with ml := { t.ml with
      nextStatus := t.ml.nextStatus + c.meter * t.ck.rate / 1000 } } := by
  simp [State.statusPage, hw, State.meterSamples, hc, delaySamples]

end

/-- Settles O23: the page's one check decides between the three writes and a window fault; either way the peaks
start again and the next page falls due. -/
theorem statusPageIsWritten : Obligations.StatusPageIsWritten := by
  intro s c hp hc hn
  rw [exec_statusPageWrite_due hp hn]
  refine ⟨fun ha => ?_, fun ha reports => ⟨s.statusPage, rfl, ?_⟩⟩
  · rw [State.statusPage_of (State.writeStatus_allowed hc ha) hc]
    rfl
  · have refused := State.writeStatus_refused hc ha
    rw [State.windowFault_faulted reports] at refused
    rw [State.statusPage_of refused hc]
    exact ⟨rfl, fun _ hb => (s.faulted c.status .status).restartPeaks_bus hb, rfl, rfl, rfl, rfl, rfl, rfl, rfl, rfl⟩

end Sys2Proof.Machine
end

section
/-! PROOFS. RUN written 0 and the end of an abandoned start (10, R181, R188; 11, R192, R193; 04, R94). -/

namespace Sys2Proof.Machine

/-! ### Commands in flight are aborted -/

/-- The records of commands in flight, each with its own CLAMPED flag, are written in the order of the table. -/
theorem Ml.finishRecords_aborted {m : Ml} (now : Nat) (cut : InFlight → Bool) (l : List InFlight)
    (h : ∀ e ∈ l, m.allows (linkPlus e.r 9) 15 true = true ∧ m.allows (linkPlus e.r 8) 1 true = true) :
    (l.map fun e => (e.r, cut e)).foldl (fun m e => m.finishRecord now e.1 .aborted .none e.2) m =
      { m with writes := m.writes ++ l.flatMap fun e =>
          finishWrites (m.address e.r) now .aborted .none (cut e) } := by
  induction l generalizing m with
  | nil => simp
  | cons e es ih =>
    obtain ⟨h9, h8⟩ := h e List.mem_cons_self
    have one : m.finishRecord now e.r .aborted .none (cut e) =
        { m with writes := m.writes ++ finishWrites (m.address e.r) now .aborted .none (cut e) } := by
      simp [Ml.finishRecord, h9, h8, finishWrites, Ml.write]
    rw [List.map_cons, List.foldl_cons, one, List.flatMap_cons, ← List.append_assoc]
    exact ih fun x hx => h x (List.mem_cons_of_mem e hx)

/-- With nothing in flight no command finishes. -/
theorem State.finishJob_none {s : State} (h : s.ml.inflight = []) (j : Job) (res : Result) (k : Bool) :
    s.finishJob j res k = s := by
  have e : ({ s.ml with inflight := [] } : Ml) = s.ml := by rw [← h]
  simp [State.finishJob, Ml.finishJob, h, e]

/-! ### The fire slot in STOPPING -/

/-- A voice record as DRAINING begins (03, R66). -/
def Voice.draining (x : Voice) (c : EndCause) : Voice :=
  { x with st := .draining, start := .notYet, blocks := [], ramp := none, late := false, endCause := c }

section
variable {s : State} {v : Nat}

/-- Outside RUNNING no report is posted (10, R188). -/
theorem State.report_still (hp : s.ml.part ≠ .running) (cls kind : Nat) (a b c : Word) :
    s.report cls kind a b c = s := by
  simp [State.report, Ml.post, hp]

/-- A voice without a waiting start becomes FREE in a part that neither reports nor has commands in flight: its
record is reset, and notices are raised at most. -/
theorem State.freeVoice_still (hp : s.ml.part ≠ .running) (hi : s.ml.inflight = [])
    (hw : (s.voice v).waiting = none) : ∃ N, s.freeVoice v = { s.setVoice v Voice.reset with notices := N } := by
  unfold State.freeVoice
  simp only [State.report_still hp, State.finishJob_none hi, hw]
  split <;> split <;> exact ⟨_, rfl⟩

/-- A prime that stands PRIMED for the run of `o` is released (03, R62, R66, R69). -/
theorem State.releasePrime_still {o : VOwner} (hp : s.ml.part ≠ .running) (hi : s.ml.inflight = []) (h1 : 1 ≤ v)
    (h2 : v ≤ 64) (hs : (s.voice v).st = .primed) (ho : (s.voice v).owner = o) (hf : (s.voice v).fetch = none)
    (hw : (s.voice v).waiting = none) :
    ∃ N, s.releasePrime v o = { s.setVoice v Voice.reset with notices := N } := by
  have drains : s.releasePrime v o = (s.setVoice v ((s.voice v).draining .stopped)).freeVoice v := by
    simp [State.releasePrime, State.stopVoice, State.drain, hs, ho, hf, Voice.draining]
  have noStart : ((s.setVoice v ((s.voice v).draining .stopped)).voice v).waiting = none := by
    rw [s.voice_setVoice _ h1 h2]
    exact hw
  obtain ⟨N, freed⟩ := State.freeVoice_still (s := s.setVoice v _) hp hi noStart
  exact ⟨N, by rw [drains, freed, State.setVoice_setVoice]⟩

theorem State.staleRead_none {fire : Bool} (h : ∀ o ∈ s.ml.slots, o.use ≠ .arming fire true) :
    s.staleRead fire = s := by
  have same : s.ml.slots.map (fun o =>
      if o.use == .arming fire true then ({ o with use := .arming fire false } : Outstanding) else o) = s.ml.slots :=
    (List.map_congr_left fun o ho => if_neg (by simpa using h o ho)).trans (List.map_id _)
  unfold State.staleRead
  simp only [same]

/-- The fire slot WAITING on a cue of one primed voice is abandoned: the voice is FREE, the slot IDLE (04, R94). -/
theorem State.stopFire_waiting {c : Cue} {a : Nat} (hp : s.ml.part ≠ .running) (hi : s.ml.inflight = [])
    (hfire : s.ce.fire = .waiting) (harm : s.ce.fireArm = none) (hcue : s.ce.fireCue = some c)
    (hpr : c.primes = [⟨a, v, .primed⟩]) (hr : ∀ o ∈ s.ml.slots, o.use ≠ .arming true true) (h1 : 1 ≤ v)
    (h2 : v ≤ 64) (hs : (s.voice v).st = .primed) (ho : (s.voice v).owner = .await true)
    (hf : (s.voice v).fetch = none) (hw : (s.voice v).waiting = none) :
    s.stopFire = { s.setVoice v Voice.reset with
      ce := { s.ce with fire := .idle, fireArm := none, fireCue := none } } := by
  obtain ⟨N, released⟩ := State.releasePrime_still hp hi h1 h2 hs ho hf hw
  have primes : s.releasePrimes true c = { s.setVoice v Voice.reset with notices := N } := by
    rw [State.releasePrimes, hpr]
    exact released
  have busy : ¬ s.ce.fire = .idle := by simp [hfire]
  have abandoned : s.abandonFire = { s.setVoice v Voice.reset with
      notices := N, ce := { s.ce with fire := .idle, fireArm := none, fireCue := none } } := by
    rw [State.abandonFire, if_neg busy]
    simp only [State.staleRead_none hr, harm, hcue, primes]
    exact State.finishJob_none (s := { s.setVoice v Voice.reset with notices := N, ce := _ }) hi _ _ _
  rw [State.stopFire, abandoned]
  rfl

theorem State.stopFire_idle (h : s.ce.fire = .idle) : s.stopFire = s := by
  rw [State.stopFire, State.abandonFire, if_pos h]

end

/-! ### RUN written 0 -/

/-- `s` as it enters STOPPING, but for the fire slot (10, R188). -/
def State.stopping (s : State) : State :=
  { s with
    ml := { s.ml with
      part := .stopping, queue := [], headWanted := false, loads := [], inflight := [], reader := .waiting,
      lookOwed := false,
      writes := s.ml.writes ++ s.ml.inflight.flatMap fun e =>
        finishWrites (s.ml.address e.r) s.ck.now .aborted .none (s.abortClamped e) }
    mx := { s.mx with closingAt := some ((s.ck.now / 64 + 1) * 64), closingDone := false }
    fb := { s.fb with recalls := [] }
    ck := { s.ck with external := false, selected := false } }

/-- `s` with RUN written 0. -/
def State.runCleared (s : State) : State := { s with ml := { s.ml with run := false } }

section
variable {s : State}

theorem State.enterStopping_eq
    (h : ∀ e ∈ s.ml.inflight, s.ml.allows (linkPlus e.r 9) 15 true = true ∧
      s.ml.allows (linkPlus e.r 8) 1 true = true) : s.enterStopping = s.stopping.stopFire :=
  congrArg (fun m : Ml => State.stopFire { s.stopping with ml := m })
    (Ml.finishRecords_aborted (m := { s.ml with
      part := .stopping, queue := [], headWanted := false, loads := [], inflight := [], reader := .waiting,
      lookOwed := false }) s.ck.now s.abortClamped s.ml.inflight h)

theorem exec_runWritten0 : exec .runWritten0 s = .next s.runZero.granted := rfl

/-- A write that leaves RUN as it is does nothing (10, R181). -/
theorem State.runZero_same (h : s.ml.run = false) : s.runZero = s := by
  simp [State.runZero, h]

theorem State.runZero_running (h : s.ml.run = true) (hp : s.ml.part = .running) :
    s.runZero = s.runCleared.enterStopping := by
  simp [State.runZero, h, hp, State.runCleared]

theorem State.runZero_starting (h : s.ml.run = true) (hp : s.ml.part = .starting) :
    s.runZero = if s.ml.startReadOut then { s with ml := { s.ml with run := false, abandoned := true } }
      else s.runCleared.resetBlocks s.ml.slots := by
  simp [State.runZero, h, hp]
  rfl

theorem State.runZero_still (h : s.ml.run = true) (hp : s.ml.part = .stopping ∨ s.ml.part = .stopped) :
    s.runZero = s.runCleared := by
  rcases hp with hp | hp <;> simp [State.runZero, h, hp, State.runCleared]

theorem Ml.startReadOut_iff {m : Ml} :
    m.startReadOut = true ↔ ∃ o ∈ m.slots, o.use = .root ∨ o.use = .startTable := by
  simp [Ml.startReadOut, Ml.isOut, and_or_left, exists_or]

/-- In RUNNING, RUN 0 enters STOPPING, where nothing is granted (10, R188). -/
theorem exec_runWritten0_running (hr : s.ml.run = true) (hp : s.ml.part = .running)
    (h : ∀ e ∈ s.ml.inflight, s.ml.allows (linkPlus e.r 9) 15 true = true ∧
      s.ml.allows (linkPlus e.r 8) 1 true = true) {t : State} (hf : s.runCleared.stopping.stopFire = t)
    (ht : t.ml = s.runCleared.stopping.ml) : exec .runWritten0 s = .next t := by
  rw [exec_runWritten0, State.runZero_running hr hp, State.enterStopping_eq (s := s.runCleared) h, hf,
    State.granted_of_none (State.grantDue_still (.inr (by rw [ht]; rfl)))]

theorem State.resetBlocks_granted (l : List Outstanding) : (s.resetBlocks l).granted = s.resetBlocks l :=
  State.granted_of_none (State.grantDue_still (.inl rfl))

/-! ### The end of an abandoned start -/

/-- A part that goes back to STARTING with no read outstanding reads its root block at once (10, R182, R187). -/
theorem State.startsAfresh_granted {root : Nat} (hp : s.ml.part = .starting) (ha : s.ml.abandoned = false)
    (hr : s.ml.phase = .root root) (hs : s.ml.slots = []) (hq : s.notices = []) :
    s.granted = { s with ml := { s.ml with slots := [⟨.root, root, 128, ⟨255, 0⟩⟩] } } := by
  have due : s.grantDue = some .own := by
    simp [State.grantDue, State.nextUser, State.ownWaits, Config.readCapacity, hp, ha, hr, hs]
  have issued : s.serveUser .own = { s with ml := { s.ml with slots := [⟨.root, root, 128, ⟨255, 0⟩⟩] } } := by
    simp [State.serveUser, State.issueOwn, Ml.issue, hp, hr, hs, endLink]
  have quiet : (s.serveUser .own).settle = s.serveUser .own := State.settle_quiet (by rw [issued]; exact hq)
  have served : (s.serveUser .own).grantDue = none :=
    State.grantDue_starting (by rw [issued]; exact hp) (by rw [issued]; rfl)
  rw [State.granted_of_some due, quiet, State.grantN, served, issued]

/-- The root block read of an abandoned start returns: the start ends (10, R181). -/
theorem State.rootReturn_abandoned {addr : Nat} {link : Link} (ha : s.ml.abandoned = true)
    (hs : s.ml.slots = [⟨.root, addr, 128, link⟩]) (b : List Byte) :
    s.rootReturn (.data b) = if s.ml.run then (s.resetBlocks []).enterStarting else s.resetBlocks [] := by
  have freed : s.dropRead .root (.data b) = { s with ml := { s.ml with slots := [] } } := by
    simp [State.dropRead, Ml.dropRead, Ml.freeSlot, hs]
  have out : s.ml.isOut .root = true := by simp [Ml.isOut, hs]
  rw [State.rootReturn, if_neg (by simp [out]), if_pos ha, freed]
  rfl

theorem State.enterStarting_reads (h0 : s.ml.root.toNat ≠ 0) (h64 : s.ml.root.toNat % 64 = 0) :
    s.enterStarting = { s with ml := { s.ml with
      part := .starting, abandoned := false, phase := .root s.ml.root.toNat } } := by
  simp [State.enterStarting, h0, h64]

theorem exec_rootReturn (d : ReadData) : exec (.rootBlockReadComplete d) s = .next (s.rootReturn d).granted := rfl

end

/-! ### The CLAMPED flag of an aborted command -/

theorem State.abortClamped_scene {s : State} {e : InFlight} {n : Nat} {q : Recall} (hj : e.job = .scene n)
    (hq : s.recallOf n = some q) : s.abortClamped e = (e.clamped || q.clamped) := by
  simp [State.abortClamped, hj, hq]

theorem State.abortClamped_fireArm {s : State} {e : InFlight} {c : Cue} (hj : e.job = .fireArm)
    (ha : s.ce.fireArm = none) (hc : s.ce.fireCue = some c) :
    s.abortClamped e = (e.clamped || decide (0 < c.clamps)) := by
  simp [State.abortClamped, armClamped, hj, ha, hc]

theorem State.abortClamped_own {s : State} {e : InFlight} (hj : e.job = .relock ∨ e.job = .loadWindows) :
    s.abortClamped e = e.clamped := by
  rcases hj with hj | hj <;> simp [State.abortClamped, hj]

/-- Settles O7: RUN 0 by the state of the part, and the return of an abandoned start's read. -/
theorem runZeroStops : Obligations.RunZeroStops := by
  refine ⟨fun s hr => ?_, fun s hr hp hj => ⟨fun hf => ?_, ?_⟩, fun s e => ⟨?_, ?_, ?_⟩,
    fun s hr => ⟨fun hp out => ?_, fun hp out => ?_, fun hp => ?_⟩, fun s addr link b _ ha hs => ⟨fun hr => ?_, ?_⟩⟩
  · rw [exec_runWritten0, State.runZero_same hr]
  · exact exec_runWritten0_running hr hp hj (State.stopFire_idle hf) rfl
  · intro c a v hfire harm hcue hpr reads h1 h2 hs ho hf hw
    have stopped : s.runCleared.stopping.ml.part ≠ .running := fun h => by cases h
    exact exec_runWritten0_running hr hp hj
      (State.stopFire_waiting stopped rfl hfire harm hcue hpr reads h1 h2 hs ho hf hw) rfl
  · exact fun n q => State.abortClamped_scene
  · exact fun c => State.abortClamped_fireArm
  · exact State.abortClamped_own
  · have own : s.ml.slots.any (fun o => isOwnRead o.use) = true := by
      obtain ⟨o, ho, hu⟩ := out
      refine List.any_eq_true.2 ⟨o, ho, ?_⟩
      rcases hu with hu | hu <;> rw [hu] <;> rfl
    rw [exec_runWritten0, State.runZero_starting hr hp, if_pos (Ml.startReadOut_iff.2 out)]
    exact congrArg Host.Outcome.next (State.granted_of_none (State.grantDue_starting hp own))
  · have notOut : ¬ s.ml.startReadOut = true := fun h => by
      obtain ⟨o, ho, hu⟩ := Ml.startReadOut_iff.1 h
      exact hu.elim (out o ho).1 (out o ho).2
    rw [exec_runWritten0, State.runZero_starting hr hp, if_neg notOut, State.resetBlocks_granted]
    rfl
  · rw [exec_runWritten0, State.runZero_still hr hp]
    exact congrArg Host.Outcome.next (State.granted_of_none (State.grantDue_still hp.symm))
  · rw [exec_rootReturn, State.rootReturn_abandoned ha hs, if_neg (by simp [hr]), State.resetBlocks_granted,
      State.resetBlocks, hr]
    rfl
  · intro hr h0 h64
    rw [exec_rootReturn, State.rootReturn_abandoned ha hs, if_pos hr,
      State.enterStarting_reads (s := s.resetBlocks []) h0 h64, State.startsAfresh_granted rfl rfl rfl rfl rfl,
      State.resetBlocks, hr]
    rfl

end Sys2Proof.Machine
end

section
/-! PROOFS. What a sample period does where nothing is due: the clock counts, the inputs count, the voices supply
(02, R27; 03, R50, R52, R58, R61, R63; 08, R159; 09, R170, R172). -/

namespace Sys2Proof.Machine

/-! ### The counts -/

/-- `s` once the show clock, the inputs and the oscillator have counted the sample that begins (08, R159; 09, R170,
R172). Irreducible, so that no proof runs the counts of the 24 inputs. -/
@[irreducible] def State.counted (s : State) (p : Pins) (osc : Nat) : State :=
  let s := s.setCk { s.ck with now := s.ck.now + 1 }
  (s.debounce p.contacts).oscillate (if s.ck.external then osc else 1)

/-- The clock unit after that count. -/
def Ck.counted (c : Ck) (osc : Nat) : Ck :=
  { c with
    now := c.now + 1
    windowPos := c.windowPos + (if c.external then osc else 1)
    gap := c.gap + (if c.external then osc else 1) }

/-- The input after that count: its raw contact against its debounced state (08, R159). -/
def State.countedInput (s : State) (p : Pins) (c : Nat) : Input :=
  if p.contacts.getLsbD (c - 1) = (s.input c).closed then { s.input c with count := 0, due := false }
  else { s.input c with
    count := (s.input c).count + 1, due := decide (s.debounceSamples c ≤ (s.input c).count + 1) }

section
variable (s : State)

/-- The debounce of a sample writes the inputs alone. -/
theorem State.debounce_inputs (raw : BitVec 24) :
    ∃ V, s.debounce raw = { s with cu := { s.cu with inputs := V } } := by
  suffices h : ∀ (l : List Nat) (t : State), ∃ V, l.foldl (fun s c =>
      s.setInput c (debounceStep (s.input c) (inSet raw c) (s.debounceSamples c))) t =
        { t with cu := { t.cu with inputs := V } } from h _ s
  intro l
  induction l with
  | nil => exact fun t => ⟨t.cu.inputs, rfl⟩
  | cons c cs ih =>
    intro t
    obtain ⟨V, hV⟩ := ih (t.setInput c (debounceStep (t.input c) (inSet raw c) (t.debounceSamples c)))
    exact ⟨V, hV⟩

theorem State.counted_eq (p : Pins) (osc : Nat) :
    ∃ V, s.counted p osc = { s with ck := s.ck.counted osc, cu := { s.cu with inputs := V } } := by
  obtain ⟨V, hV⟩ := (s.setCk { s.ck with now := s.ck.now + 1 }).debounce_inputs p.contacts
  unfold State.counted
  exact ⟨V, by simp only [hV]; rfl⟩

/-- Another input's debounce time does not see a write to input `c`. -/
theorem State.debounceSamples_setInput_other {c e : Nat} (x : Input) (hc : 1 ≤ c) (he : 1 ≤ e) (h : c ≠ e) :
    (s.setInput c x).debounceSamples e = s.debounceSamples e := by
  rw [State.debounceSamples, s.input_setInput_other x hc he h]
  rfl

theorem State.debounce_input (raw : BitVec 24) {c : Nat} (h1 : 1 ≤ c) (h2 : c ≤ 24) :
    (s.debounce raw).input c = debounceStep (s.input c) (inSet raw c) (s.debounceSamples c) := by
  unfold State.debounce
  rw [State.input_foldl _ (fun t c e x hc he hne => by
      rw [t.input_setInput_other x hc he hne, t.debounceSamples_setInput_other x hc he hne])
    _ (oneTo_nodup 24) (fun c hc => mem_oneTo.1 hc) s c h1, if_pos (mem_oneTo.2 ⟨h1, h2⟩)]

theorem State.setCk_input (k : Ck) (c : Nat) : (s.setCk k).input c = s.input c := rfl

theorem State.counted_input (p : Pins) (osc : Nat) {c : Nat} (h1 : 1 ≤ c) (h2 : c ≤ 24) :
    (s.counted p osc).input c = s.countedInput p c := by
  unfold State.counted State.oscillate
  simp only [State.setCk_input, State.debounce_input _ _ h1 h2]
  rfl

/-! ### The voices -/

/-- One voice's turn in a sample period (03, R50). -/
def State.tickOne (acc : State × List Int) (v : Nat) : State × List Int :=
  if acc.1.running && (acc.1.voice v).sounds then ((acc.1.supplyVoice v).1, acc.2 ++ [(acc.1.supplyVoice v).2])
  else (acc.1, acc.2 ++ [0])

theorem State.tickVoices_eq : s.tickVoices = (oneTo 64).foldl State.tickOne (s, []) := rfl

variable {s}

/-- Voices that do not sound supply zero and stand still. -/
theorem State.tick_silent {l : List Nat} {g : Nat → Int} (h : ∀ u ∈ l, (s.voice u).sounds = false ∧ g u = 0)
    (outs : List Int) : l.foldl State.tickOne (s, outs) = (s, outs ++ l.map g) := by
  induction l generalizing outs with
  | nil => simp
  | cons v vs ih =>
    obtain ⟨silent, zero⟩ := h v List.mem_cons_self
    have still : State.tickOne (s, outs) v = (s, outs ++ [g v]) := by simp [State.tickOne, silent, zero]
    rw [List.foldl_cons, still, ih fun u hu => h u (List.mem_cons_of_mem v hu)]
    simp

/-- Where one voice alone sounds, it alone supplies: the voices before it and after it are silent. -/
theorem State.tickVoices_one {t : State} {v : Nat} {out : Int} (h1 : 1 ≤ v) (h2 : v ≤ 64) (hr : s.running = true)
    (others : ∀ u, 1 ≤ u → u ≤ 64 → u ≠ v → (s.voice u).sounds = false) (hv : (s.voice v).sounds = true)
    (hs : s.supplyVoice v = (t, out)) (ht : ∀ u, 1 ≤ u → u ≠ v → t.voice u = s.voice u) :
    s.tickVoices = (t, (oneTo 64).map fun u => if u = v then out else 0) := by
  obtain ⟨before, after, split⟩ := List.append_of_mem (mem_oneTo.2 ⟨h1, h2⟩)
  have other : ∀ u, u ∈ before ∨ u ∈ after → 1 ≤ u ∧ u ≤ 64 ∧ u ≠ v := by
    intro u hu
    have inside : u ∈ oneTo 64 := by
      rw [split, List.mem_append, List.mem_cons]
      exact hu.imp_right .inr
    have apart := oneTo_nodup 64
    rw [split, List.nodup_middle, List.nodup_cons, List.mem_append] at apart
    obtain ⟨u1, u2⟩ := mem_oneTo.1 inside
    exact ⟨u1, u2, fun e => apart.1 (e ▸ hu)⟩
  have silentBefore : ∀ u ∈ before, (s.voice u).sounds = false ∧ (if u = v then out else 0) = 0 := fun u hu => by
    obtain ⟨u1, u2, hne⟩ := other u (.inl hu)
    exact ⟨others u u1 u2 hne, if_neg hne⟩
  have silentAfter : ∀ u ∈ after, (t.voice u).sounds = false ∧ (if u = v then out else 0) = 0 := fun u hu => by
    obtain ⟨u1, u2, hne⟩ := other u (.inr hu)
    rw [ht u u1 hne]
    exact ⟨others u u1 u2 hne, if_neg hne⟩
  have turn : ∀ outs, State.tickOne (s, outs) v = (t, outs ++ [out]) := fun outs => by
    simp [State.tickOne, hr, hv, hs]
  rw [State.tickVoices_eq, split, List.foldl_append, State.tick_silent silentBefore, List.foldl_cons, turn,
    State.tick_silent silentAfter]
  simp

/-- Place `u` of a sample's outputs is that of voice `u`. -/
theorem State.frameOf_voice (s : State) (p : Pins) (g : Nat → Int) {u : Nat} (h1 : 1 ≤ u) (h2 : u ≤ 64) :
    tget (s.frameOf p ((oneTo 64).map g)).voices (u - 1) 0 = g u := by
  have hu : u - 1 < 64 := by omega
  have e : u - 1 + 1 = u := by omega
  simp [tget, State.frameOf, oneTo, hu, e]

/-! ### The row -/

/-- The sample that begins in RUNNING: after the counts the voices supply, and the frame joins the period's frames
(09, R170; 02, R27). -/
theorem State.nextSample_running (hp : s.ml.part = .running) (p : Pins) (osc : Nat) :
    s.nextSample p osc =
      let r := (s.counted p osc).tickVoices
      { r.1 with mx := { r.1.mx with frames := r.1.mx.frames ++ [r.1.frameOf p r.2] } } := by
  have running : (s.setCk { s.ck with now := s.ck.now + 1 }).running = true := beq_iff_eq.2 hp
  unfold State.nextSample
  simp only [if_pos running, State.counted]

/-- A sample period in which nothing is due (09, R170). -/
theorem exec_samplePeriod_idle (hp : s.ml.part = .running) (hd : s.dueStep = none) (p : Pins) (osc : Nat) {t : State}
    {outs : List Int} (ht : (s.counted p osc).tickVoices = (t, outs)) (hq : t.notices = []) :
    exec (.samplePeriod p osc) s =
      .next (State.granted { t with mx := { t.mx with frames := t.mx.frames ++ [t.frameOf p outs] } }) := by
  have drained : s.drainDue = s := by rw [State.drainDue, State.drainN, hd]
  have next := State.nextSample_running hp p osc
  have row : s.samplePeriod p osc = s.nextSample p osc := by
    simp [State.samplePeriod, State.running, hp, drained]
  show Host.Outcome.next (s.samplePeriod p osc).settle.granted = _
  rw [ht] at next
  rw [row, next]
  exact congrArg (fun u : State => Host.Outcome.next u.granted) (State.settle_quiet hq)

theorem exec_samplePeriod_stopped (hp : s.ml.part = .stopped) (hq : s.notices = []) (p : Pins) (osc : Nat) :
    exec (.samplePeriod p osc) s = .next s := by
  have row : s.samplePeriod p osc = s := by simp [State.samplePeriod, State.running, hp]
  show Host.Outcome.next (s.samplePeriod p osc).settle.granted = _
  rw [row, State.settle_quiet hq, State.granted_of_none (State.grantDue_still (.inl hp))]

/-! ### What a voice supplies -/

/-- A voice record one sample on, but for its underrun marks: envelope and ramp, path, buffer and tail (03, R52, R53,
R61, R63). -/
def Voice.moved (x : Voice) : Voice :=
  { x with
    env := (stepEnvelope x.env x.ramp).1
    ramp := (stepEnvelope x.env x.ramp).2
    pos := nextPos x.desc none x.pos
    blocks := freePassed x.blocks (nextPos x.desc none x.pos).idx
    tail := if x.st = .tailing ∧ x.stop ≠ .cut then x.tail - 1 else x.tail }

/-- Without a second descriptor a path stays in its part (03, R52). -/
theorem nextPos_second (d : Option Desc) (q : Pos) : (nextPos d none q).second = q.second := by
  have ended : ∀ e : Pos, (endPart none e).second = e.second := fun e => by
    unfold endPart
    split <;> simp_all
  unfold nextPos
  split
  · simp only [apply_ite Pos.second, ended]
    cases q.left <;> simp [apply_ite Pos.second]
  · rfl

section
variable {x : Voice}

/-- A voice whose frame is held supplies it under its envelope (03, R58, R61). -/
theorem Voice.supply_held (hd : x.pos.done = false) (h2 : x.desc2 = none) {w : Word}
    (hw : heldWord x.blocks x.pos.idx = some w) :
    x.supply = ⟨{ x.moved with inUnderrun := false }, scale (frameValue w) x.moved.env, none, false⟩ := by
  simp [Voice.supply, Voice.moved, Voice.inCut, hd, h2, hw, nextPos_second]

/-- The first frame missed is an underrun (03, R58). -/
theorem Voice.supply_underrun (hp : x.playing = true) (hd : x.pos.done = false) (h2 : x.desc2 = none)
    (hw : heldWord x.blocks x.pos.idx = none) (hu : x.inUnderrun = false) (hr : x.underrunReported = false)
    (hn : x.underruns < 65535) :
    x.supply = ⟨{ x.moved with inUnderrun := true, underruns := x.underruns + 1, underrunReported := true }, 0,
      some x.pos.frame, false⟩ := by
  have hmin : min (x.underruns + 1) 65535 = x.underruns + 1 := min_eq_left hn
  simp [Voice.supply, Voice.moved, Voice.inCut, hp, hd, h2, hw, hu, hr, hmin, nextPos_second]

/-- A further frame missed in the same episode counts no more (03, R58). -/
theorem Voice.supply_missing (hp : x.playing = true) (hd : x.pos.done = false) (h2 : x.desc2 = none)
    (hw : heldWord x.blocks x.pos.idx = none) (hu : x.inUnderrun = true) :
    x.supply = ⟨x.moved, 0, none, false⟩ := by
  simp [Voice.supply, Voice.moved, Voice.inCut, hp, hd, h2, hw, hu, nextPos_second]

end

theorem State.supplyVoice_quiet {v : Nat} {z : Voice} {out : Int} (h : (s.voice v).supply = ⟨z, out, none, false⟩) :
    s.supplyVoice v = (s.setVoice v z, out) := by
  simp [State.supplyVoice, h]

theorem State.supplyVoice_reports {v f : Nat} {z : Voice} {out : Int}
    (h : (s.voice v).supply = ⟨z, out, some f, false⟩) (hr : s.Reports 1) :
    s.supplyVoice v = ((s.setVoice v z).posted clsAudio repVoiceUnderrun (w32 v) (w32 f)
      (voiceOwnerWord (s.voice v).owner), out) := by
  have posts := State.report_posted (s := s.setVoice v z) ⟨hr.running, hr.room, hr.unknown⟩ clsAudio
    repVoiceUnderrun (w32 v) (w32 f) (voiceOwnerWord (s.voice v).owner)
  simp [State.supplyVoice, h, posts]

/-! ### The two periods -/

theorem samplePeriod_silent (p : Pins) (osc : Nat) (hq : s.notices = []) (hp : s.ml.part = .running)
    (hd : s.dueStep = none) (silent : ∀ v, (s.voice v).sounds = false) :
    ∃ t : State, exec (.samplePeriod p osc) s = .next t.granted ∧ t.ck = s.ck.counted osc ∧
      (∀ c, 1 ≤ c → c ≤ 24 → t.input c = s.countedInput p c) ∧
      (∃ f : Frame, t.mx.frames = s.mx.frames ++ [f] ∧ f.inputs = (p.slots.take 59).map BitVec.toInt ∧
        ∀ v, 1 ≤ v → v ≤ 64 → tget f.voices (v - 1) 0 = 0) ∧
      t = { s with
        ck := t.ck, cu := { s.cu with inputs := t.cu.inputs }, mx := { s.mx with frames := t.mx.frames } } := by
  obtain ⟨V, hV⟩ := s.counted_eq p osc
  have inputs := fun c => s.counted_input p osc (c := c)
  have ticked := State.tick_silent (s := s.counted p osc) (l := oneTo 64) (g := fun _ => 0)
    (fun v _ => ⟨by rw [hV]; exact silent v, rfl⟩) []
  have row := exec_samplePeriod_idle hp hd p osc ticked (by rw [hV]; exact hq)
  rw [hV] at row inputs
  exact ⟨_, row, rfl, inputs, ⟨_, rfl, rfl, fun v h1 h2 => State.frameOf_voice _ p (fun _ => 0) h1 h2⟩, rfl⟩

/-- What a sample period leaves where voice `v` alone sounds: its record `z`, its sample `out`, the memory link `m`,
and the counts. -/
def State.Gives (s : State) (p : Pins) (osc v : Nat) (z : Voice) (out : Int) (m : Ml) : Prop :=
  ∃ (t : State) (f : Frame), exec (.samplePeriod p osc) s = .next t.granted ∧
    t.mx.frames = s.mx.frames ++ [f] ∧ tget f.voices (v - 1) 0 = out ∧ t.voice v = z ∧
    (∀ u, 1 ≤ u → u ≤ 64 → u ≠ v → t.voice u = s.voice u ∧ tget f.voices (u - 1) 0 = 0) ∧
    t.ck.now = s.ck.now + 1 ∧
    t = { s with
      ck := t.ck, cu := { s.cu with inputs := t.cu.inputs }, mx := { s.mx with frames := t.mx.frames },
      vu := { s.vu with voices := t.vu.voices }, ml := m }

/-- In RUNNING, with no event due and no notice outstanding, voice `v` alone sounds: it plays. -/
structure State.OneSounds (s : State) (v : Nat) : Prop where
  low : 1 ≤ v
  high : v ≤ 64
  quiet : s.notices = []
  running : s.ml.part = .running
  idle : s.dueStep = none
  others : ∀ u, 1 ≤ u → u ≤ 64 → u ≠ v → (s.voice u).sounds = false
  plays : (s.voice v).playing = true

theorem State.voice_congr {s t : State} (h : t.vu = s.vu) (v : Nat) : t.voice v = s.voice v := by
  rw [State.voice, State.voice, h]

section
variable {v : Nat} {z : Voice} {out : Int}

theorem State.OneSounds.gives (h : s.OneSounds v) {p : Pins} {osc : Nat} {m : Ml}
    (hs : (s.counted p osc).supplyVoice v = ({ (s.counted p osc).setVoice v z with ml := m }, out)) :
    s.Gives p osc v z out m := by
  obtain ⟨h1, h2, hq, hp, hd, others, plays⟩ := h
  obtain ⟨V, hV⟩ := s.counted_eq p osc
  have same : ∀ u, (s.counted p osc).voice u = s.voice u := fun u => State.voice_congr (by rw [hV]) u
  have written : ∀ u, State.voice { (s.counted p osc).setVoice v z with ml := m } u =
      ((s.counted p osc).setVoice v z).voice u := fun u => State.voice_congr rfl u
  have ticked := State.tickVoices_one (s := s.counted p osc) h1 h2 (by rw [hV]; exact beq_iff_eq.2 hp)
    (fun u u1 u2 hu => by rw [same]; exact others u u1 u2 hu) (by rw [same, Voice.sounds, plays]; rfl) hs
    (fun u u1 hu => by rw [written]; exact State.voice_setVoice_other _ z h1 u1 (Ne.symm hu))
  have row := exec_samplePeriod_idle hp hd p osc ticked (by rw [hV]; exact hq)
  refine ⟨_, State.frameOf { (s.counted p osc).setVoice v z with ml := m } p
    ((oneTo 64).map fun u => if u = v then out else 0), row, ?_, ?_, ?_, fun u u1 u2 hu => ⟨?_, ?_⟩, ?_, ?_⟩
  · rw [hV]
    rfl
  · rw [State.frameOf_voice _ p _ h1 h2, if_pos rfl]
  · exact (State.voice_congr (s := s.setVoice v z) (by rw [hV]; rfl) v).trans (s.voice_setVoice z h1 h2)
  · exact (State.voice_congr (s := s.setVoice v z) (by rw [hV]; rfl) u).trans
      (s.voice_setVoice_other z h1 u1 (Ne.symm hu))
  · rw [State.frameOf_voice _ p _ u1 u2, if_neg hu]
  · rw [hV]
    rfl
  · rw [hV]
    rfl

/-- A supply without an underrun leaves the memory link alone. -/
theorem State.OneSounds.gives_quiet (h : s.OneSounds v) (p : Pins) (osc : Nat)
    (hz : (s.voice v).supply = ⟨z, out, none, false⟩) : s.Gives p osc v z out s.ml := by
  obtain ⟨V, hV⟩ := s.counted_eq p osc
  have same : (s.counted p osc).voice v = s.voice v := State.voice_congr (by rw [hV]) v
  refine h.gives ?_
  rw [State.supplyVoice_quiet (same ▸ hz), hV]
  rfl

/-- An underrun of a host's voice is posted, stamped with the sample that begins (03, R58). -/
theorem State.OneSounds.gives_underrun (h : s.OneSounds v) (p : Pins) (osc : Nat) {f : Nat}
    (hz : (s.voice v).supply = ⟨z, out, some f, false⟩) (ho : (s.voice v).owner = .host) (hr : s.Reports 1) :
    s.Gives p osc v z out (({ s with ck := { s.ck with now := s.ck.now + 1 } } : State).posted clsAudio
      repVoiceUnderrun (w32 v) (w32 f) (voiceOwnerWord .host)).ml := by
  obtain ⟨V, hV⟩ := s.counted_eq p osc
  have same : (s.counted p osc).voice v = s.voice v := State.voice_congr (by rw [hV]) v
  refine h.gives ?_
  rw [State.supplyVoice_reports (same ▸ hz) (hr.congr (by rw [hV])), same, ho, hV]
  rfl

end

/-- The envelope and the ramp one sample on, case by case (03, R61). -/
theorem stepEnvelope_eq (env : Int) (o : Option Ramp) :
    stepEnvelope env o =
      (match o with
        | none => env
        | some r => r.v0 + ((r.v1 - r.v0) * ((r.i : Int) + 1)).tdiv 64,
       match o with
        | none => none
        | some r => if r.i < 63 then some { r with i := r.i + 1 } else none) := by
  cases o with
  | none => rfl
  | some r =>
    simp only [stepEnvelope, rampValue]
    by_cases h : r.i < 63
    · rw [if_pos h, if_neg (Nat.not_le.2 h)]
    · rw [if_neg h, if_pos (Nat.not_lt.1 h)]

end

/-- Settles O12: what the one sounding voice supplies decides between the frame, the underrun and the zero. -/
theorem samplePeriodCounts : Obligations.SamplePeriodCounts := by
  intro s p osc hq
  refine ⟨fun hp hd silent => samplePeriod_silent p osc hq hp hd silent, ?_, fun hp =>
    exec_samplePeriod_stopped hp hq p osc⟩
  intro v h1 h2 hp hd others hst hdone hdesc x env pos y gives
  have plays : (s.voice v).playing = true := by
    rcases hst with e | e <;> simp [Voice.playing, e]
  have one : s.OneSounds v := ⟨h1, h2, hq, hp, hd, others, plays⟩
  have moved : (s.voice v).moved = y := by
    rw [Voice.moved, stepEnvelope_eq]
    rfl
  refine ⟨fun w hw => ?_, fun hw hu hr hn ho reports => ?_, fun hw hu => ?_⟩
  · have supplied := Voice.supply_held hdone hdesc hw
    rw [moved] at supplied
    exact one.gives_quiet p osc supplied
  · have supplied := Voice.supply_underrun plays hdone hdesc hw hu hr hn
    rw [moved] at supplied
    exact one.gives_underrun p osc supplied ho reports
  · have supplied := Voice.supply_missing plays hdone hdesc hw hu
    rw [moved] at supplied
    exact one.gives_quiet p osc supplied

end Sys2Proof.Machine
end

section
/-! PROOFS. Voices that end: DRAINING, FREE, and the rows PATH_END, CUT_RAMP_END, PAUSE_RAMP_END and TAIL_END (03,
R62, R63, R65–R67). -/

namespace Sys2Proof.Machine

section
variable {s t : State} {v : Nat}

/-! ### Commands that no record waits for -/

/-- A job on which no command in flight waits finishes nothing. -/
theorem State.finishJob_absent {j : Job} (h : ∀ e ∈ s.ml.inflight, e.job ≠ j) (res : Result) (k : Bool) :
    s.finishJob j res k = s := by
  have none : s.ml.inflight.filter (·.job == j) = [] := by simpa using h
  have all : s.ml.inflight.filter (fun e => !(e.job == j)) = s.ml.inflight := by simpa using h
  simp [State.finishJob, Ml.finishJob, none, all]

/-! ### A host's voice becomes FREE -/

/-- A change of a loose voice that keeps its owner and gives it no waiting start leaves it loose. -/
theorem State.Loose.setVoice (h : s.Loose v) (h1 : 1 ≤ v) (h2 : v ≤ 64) {x : Voice} (ho : x.owner = .host)
    (hw : x.waiting = none) : (s.setVoice v x).Loose v := by
  have same := s.voice_setVoice x h1 h2
  exact ⟨by rw [same]; exact ho, by rw [same]; exact hw, h.noJob, h.kept⟩

theorem State.Loose.congr (h : s.Loose v) (hv : t.vu = s.vu) (hi : t.ml.inflight = s.ml.inflight) : t.Loose v := by
  have same : t.voice v = s.voice v := State.voice_congr hv v
  exact ⟨by rw [same]; exact h.host, by rw [same]; exact h.noStart, by rw [hi]; exact h.noJob, by rw [hv]; exact h.kept⟩

/-- No command in flight waits on a loose voice. -/
theorem State.Loose.finishStart (h : s.Loose v) (hi : t.ml.inflight = s.ml.inflight) (res : Result) (k : Bool) :
    t.finishJob (.startVoice v false) res k = t :=
  State.finishJob_absent (fun e he => (h.noJob e (hi ▸ he)).1) res k

theorem State.Loose.finishTeardown (h : s.Loose v) (hi : t.ml.inflight = s.ml.inflight) (res : Result) (k : Bool) :
    t.finishJob (.teardown v) res k = t :=
  State.finishJob_absent (fun e he => (h.noJob e (hi ▸ he)).2) res k

/-- A voice that is not reserved is not available to the relay (03, R68). -/
theorem State.available_kept (h : inSet s.vu.reserve v = false) : s.available v = false := by
  simp [State.available, State.reserved, h]

/-- A host's voice that is not reserved and has no waiting start becomes FREE: VOICE_END, then the commands in flight
that wait on it (03, R66). -/
theorem State.freeVoice_host (ho : (s.voice v).owner = .host) (hw : (s.voice v).waiting = none)
    (hk : inSet s.vu.reserve v = false) (hr : s.Reports 1) : s.freeVoice v =
      (((s.posted clsAudio repVoiceEnd (w32 v) (w32 (endCauseCode (s.voice v).endCause))
        (w32 (s.voice v).underruns)).finishJob (.startVoice v false) .aborted).finishJob (.teardown v) .ok).setVoice v
          Voice.reset := by
  unfold State.freeVoice
  simp only [State.report_posted hr, ho, hw]
  refine if_neg (ne_true_of_eq_false (State.available_kept ?_))
  exact hk

/-- A loose voice becomes FREE with VOICE_END (03, R66). -/
theorem State.Loose.freeVoice (h : s.Loose v) (hr : s.Reports 1) : s.freeVoice v =
    (s.posted clsAudio repVoiceEnd (w32 v) (w32 (endCauseCode (s.voice v).endCause))
      (w32 (s.voice v).underruns)).setVoice v Voice.reset := by
  rw [State.freeVoice_host h.host h.noStart h.kept hr, h.finishStart (t := s.posted _ _ _ _ _) rfl,
    h.finishTeardown (t := s.posted _ _ _ _ _) rfl]

/-! ### DRAINING -/

/-- A host's voice enters DRAINING, and is FREE at once where no fetch is outstanding (03, R66). -/
theorem State.drain_host (ho : (s.voice v).owner = .host) (c : EndCause) : s.drain v c =
    if (s.voice v).fetch.isNone then (s.setVoice v ((s.voice v).draining c)).freeVoice v
    else s.setVoice v ((s.voice v).draining c) := by
  simp only [State.drain, ho, Voice.draining]
  cases (s.voice v).st <;> rfl

theorem State.drain_fetching {f : Fetch} (ho : (s.voice v).owner = .host) (hf : (s.voice v).fetch = some f)
    (c : EndCause) : s.drain v c = s.setVoice v ((s.voice v).draining c) := by
  rw [State.drain_host ho, hf]
  rfl

/-- A loose voice with no fetch outstanding that drains is FREE, with VOICE_END (03, R66). -/
theorem State.Loose.drain (h : s.Loose v) (h1 : 1 ≤ v) (h2 : v ≤ 64) (hf : (s.voice v).fetch = none)
    (hr : s.Reports 1) (c : EndCause) : s.drain v c =
      (s.posted clsAudio repVoiceEnd (w32 v) (w32 (endCauseCode c)) (w32 (s.voice v).underruns)).setVoice v
        Voice.reset := by
  have loose : (s.setVoice v ((s.voice v).draining c)).Loose v := h.setVoice h1 h2 h.host h.noStart
  rw [State.drain_host h.host, hf, Option.isNone_none, if_pos rfl, loose.freeVoice (hr.congr rfl),
    s.voice_setVoice _ h1 h2]
  exact State.setVoice_setVoice (s.posted _ _ _ _ _) v _ _

/-! ### The rows -/

/-- A row that is taken in RUNNING, and whose event raises no notice. -/
theorem State.runningRow (hp : s.ml.part = .running) {f : State → State} (hf : f s = t) (hq : t.notices = []) :
    (.next (if s.running then (f s).settle else s).granted : Answer) = .next t.granted := by
  have running : s.running = true := beq_iff_eq.2 hp
  rw [if_pos running, hf, State.settle_quiet hq]

theorem Voice.playing_iff {x : Voice} : x.playing = true ↔ x.st = .playing ∨ x.st = .tailing := by
  simp [Voice.playing]

theorem State.pathEnd_due (hst : (s.voice v).st = .playing ∨ (s.voice v).st = .tailing)
    (hd : (s.voice v).pos.done = true) : s.pathEnd v = s.drain v .finished := by
  simp [State.pathEnd, State.pathEndDue, Voice.playing_iff.2 hst, hd]

theorem State.cutRampEnd_due (hst : (s.voice v).st = .playing ∨ (s.voice v).st = .tailing)
    (hc : (s.voice v).stop = .cut) (hr : (s.voice v).ramp = none) : s.cutRampEnd v = s.drain v .stopped := by
  simp [State.cutRampEnd, State.cutEndDue, Voice.playing_iff.2 hst, Voice.inCut, hc, hr]

theorem State.pauseRampEnd_due (hst : (s.voice v).st = .paused) (hc : (s.voice v).stop = .cut)
    (hr : (s.voice v).ramp = none) : s.pauseRampEnd v = s.drain v .stopped := by
  simp [State.pauseRampEnd, State.pauseEndDue, hst, Voice.inCut, hc, hr]

end

/-- Settles O18: what has run out drains its voice, and a loose voice with no fetch outstanding is FREE at once. -/
theorem voicesEndThroughDraining : Obligations.VoicesEndThroughDraining := by
  intro s v h1 h2 hp hq hr loose
  have freed := fun hf c => loose.drain h1 h2 hf hr c
  refine ⟨fun hst hd hf => ?_, fun hst hc hramp hf => ?_, fun hst hc hramp hf => ?_, fun f hst hd hf => ?_⟩
  · exact State.runningRow hp ((State.pathEnd_due hst hd).trans (freed hf _)) hq
  · exact State.runningRow hp ((State.cutRampEnd_due hst hc hramp).trans (freed hf _)) hq
  · exact State.runningRow hp ((State.pauseRampEnd_due hst hc hramp).trans (freed hf _)) hq
  · exact State.runningRow hp ((State.pathEnd_due hst hd).trans (State.drain_fetching loose.host hf _)) hq

/-! ### Tails, flashes and boundaries -/

/-- Settles O19: each row acts where its event is due, and in RUNNING alone. -/
theorem tailsFlashesAndBoundaries : Obligations.TailsFlashesAndBoundaries := by
  intro s hp
  have running : s.running = true := beq_iff_eq.2 hp
  refine ⟨fun v hst hc ht => ?_, fun e he => ?_, fun b hb => ?_⟩
  · have due : s.tailEndDue v = true := by simp [State.tailEndDue, Voice.inCut, hst, hc, ht]
    show Host.Outcome.next (if s.running then s.tailEnd v else s).granted = _
    rw [if_pos running, State.tailEnd, if_pos due]
    rfl
  · have flashOver : s.flashOver = decide (e < s.ck.now) := by simp only [State.flashOver, he]
    show Host.Outcome.next (if s.running then s.flashEnd else s).granted = _
    rw [if_pos running, State.flashEnd, flashOver]
    simp only [decide_eq_true_eq]
  · have due : s.boundaryDue = decide (b ≤ s.ck.now) := by simp only [State.boundaryDue, hb]
    show Host.Outcome.next (if s.running then s.takeBoundary else s).granted = _
    rw [if_pos running, State.takeBoundary, due, hb]
    simp only [decide_eq_true_eq]
    rfl

end Sys2Proof.Machine
end

section
/-! PROOFS. FETCH_COMPLETE: a block is placed, dropped, or frees a DRAINING voice (03, R53, R56, R58, R64, R66). -/

namespace Sys2Proof.Machine

/-- A voice record with the block of its fetch in the buffer (03, R56). -/
def Voice.filled (x : Voice) (f : Fetch) (b : List Byte) : Voice :=
  { x with fetch := none, blocks := x.blocks ++ [⟨f.idx, wordsOf f.len b⟩] }

/-- A voice record that becomes PRIMED and starts then, from the next sample on (03, R56, R60). -/
def Voice.primedAt (x : Voice) (now : Nat) : Voice := { x with st := .primed, startFrom := now + 1, late := false }

/-- `s` with its only read returned: no slot is in use. -/
def State.readBack (s : State) : State := { s with ml := { s.ml with slots := [] } }

section
variable {s : State} {v : Nat} {f : Fetch} {b : List Byte}

/-! ### The return of a fetch -/

theorem exec_fetchComplete (d : ReadData) : exec (.fetchComplete v d) s = .next (s.fetchReturn v d).settle.granted :=
  rfl

/-- The only read outstanding returns with data: its slot is free, and the block is looked at (03, R56). -/
theorem State.fetchReturn_data {addr len : Nat} {link : Link} (hp : s.ml.part = .running)
    (hs : s.ml.slots = [⟨.fetch v, addr, len, link⟩]) (hf : (s.voice v).fetch = some f) :
    s.fetchReturn v (.data b) = s.readBack.placeBlock v f b := by
  have freed : s.ml.freeSlot (.fetch v) = { s.ml with slots := [] } := by simp [Ml.freeSlot, hs]
  have running : s.running = true := beq_iff_eq.2 hp
  simp [State.fetchReturn, State.readBack, hf, running, freed]

/-! ### The block -/

theorem State.placeBlock_draining (h : (s.voice v).st = .draining) :
    s.placeBlock v f b = (s.setVoice v { s.voice v with fetch := none }).freeVoice v := if_pos h

/-- A read that a DRAINING voice waited for frees it (03, R66). -/
theorem State.Loose.placeBlock_frees (h : s.Loose v) (h1 : 1 ≤ v) (h2 : v ≤ 64) (hst : (s.voice v).st = .draining)
    (hr : s.Reports 1) : s.placeBlock v f b =
      (s.posted clsAudio repVoiceEnd (w32 v) (w32 (endCauseCode (s.voice v).endCause))
        (w32 (s.voice v).underruns)).setVoice v Voice.reset := by
  have loose := h.setVoice h1 h2 (x := { s.voice v with fetch := none }) h.host h.noStart
  rw [State.placeBlock_draining hst, loose.freeVoice (hr.congr rfl), s.voice_setVoice _ h1 h2]
  exact State.setVoice_setVoice (s.posted _ _ _ _ _) v _ _

/-- Data that is to be discarded, or that the play position has passed, is dropped (03, R58, R64). -/
theorem State.placeBlock_dropped (hst : (s.voice v).st ≠ .draining)
    (h : f.discard = true ∨ f.idx + f.len ≤ (s.voice v).pos.idx) :
    s.placeBlock v f b = s.setVoice v { s.voice v with fetch := none } :=
  (if_neg hst).trans (if_pos h)

/-- A host's voice that starts when PRIMED becomes PRIMED (03, R56). -/
theorem State.becomePrimed_host (ho : (s.voice v).owner = .host) (hs : (s.voice v).start = .whenPrimed) :
    s.becomePrimed v = s.setVoice v ((s.voice v).primedAt s.ck.now) := by
  simp only [State.becomePrimed, ho, hs, Voice.primedAt]

/-- The prime of a path with more to fetch is held with the second block (03, R56). -/
theorem Voice.filled_primeHeld {x : Voice} (hd : x.fpos.done = false) :
    (x.filled f b).primeHeld = decide (1 ≤ x.blocks.length) := by
  simp [Voice.primeHeld, Voice.filled, hd]

/-- A block ahead of the play position of a PRIMING voice is placed; the second one completes its prime. -/
theorem State.placeBlock_priming (h1 : 1 ≤ v) (h2 : v ≤ 64) (hst : (s.voice v).st = .priming)
    (ho : (s.voice v).owner = .host) (hs : (s.voice v).start = .whenPrimed) (hd : (s.voice v).fpos.done = false)
    (hf : f.discard = false) (hi : (s.voice v).pos.idx < f.idx + f.len) :
    s.placeBlock v f b = s.setVoice v (if 1 ≤ (s.voice v).blocks.length
      then ((s.voice v).filled f b).primedAt s.ck.now else (s.voice v).filled f b) := by
  have ahead : ¬ (f.discard = true ∨ f.idx + f.len ≤ (s.voice v).pos.idx) := by simp [hf, hi]
  have filled : (s.setVoice v ((s.voice v).filled f b)).voice v = (s.voice v).filled f b := s.voice_setVoice _ h1 h2
  have placed : s.placeBlock v f b =
      if (s.voice v).st = .priming ∧ ((s.voice v).filled f b).primeHeld = true
      then (s.setVoice v ((s.voice v).filled f b)).becomePrimed v else s.setVoice v ((s.voice v).filled f b) :=
    (if_neg (by simp [hst])).trans (if_neg ahead)
  rw [placed, Voice.filled_primeHeld hd]
  by_cases hb : 1 ≤ (s.voice v).blocks.length
  · rw [if_pos ⟨hst, decide_eq_true hb⟩, if_pos hb, State.becomePrimed_host (by rw [filled]; exact ho)
      (by rw [filled]; exact hs), filled]
    exact s.setVoice_setVoice v _ _
  · rw [if_neg (fun h => hb (of_decide_eq_true h.2)), if_neg hb]

end

/-- Settles O28: what becomes of a block is decided by the state of its voice and by where its play position is. -/
theorem fetchedBlockIsPlaced : Obligations.FetchedBlockIsPlaced := by
  intro s v addr link f b h1 h2 hp hq hs hf
  have quiet : ∀ {t : State}, s.readBack.placeBlock v f b = t → t.notices = [] →
      exec (.fetchComplete v (.data b)) s = .next t.granted := by
    intro t ht hn
    rw [exec_fetchComplete, State.fetchReturn_data hp hs hf, ht, State.settle_quiet hn]
  refine ⟨fun hst ho hstart hd hdisc hi => ?_, fun hst h => ?_, fun hst loose hr => ?_⟩
  · refine ⟨_, quiet (State.placeBlock_priming (s := s.readBack) h1 h2 hst ho hstart hd hdisc hi) hq, rfl, ?_, ?_, ?_,
      fun u u1 _ hu => State.voice_setVoice_other _ _ h1 u1 (Ne.symm hu), rfl⟩
    · rw [State.voice_setVoice _ _ h1 h2, apply_ite Voice.blocks]
      exact ite_self _
    · rw [State.voice_setVoice _ _ h1 h2, apply_ite Voice.fetch]
      exact ite_self _
    · rw [State.voice_setVoice _ _ h1 h2, apply_ite Voice.st]
      exact congrArg (fun x => if 1 ≤ (s.voice v).blocks.length then VState.primed else x) hst
  · have sounding : (s.readBack.voice v).st ≠ .draining := by
      rw [show (s.readBack.voice v).st = .playing from hst]
      decide
    exact quiet (State.placeBlock_dropped sounding h) hq
  · have returned : s.readBack.Loose v := loose.congr rfl rfl
    exact quiet (returned.placeBlock_frees h1 h2 hst ⟨hr.running, hr.room, hr.unknown⟩) hq

end Sys2Proof.Machine
end

section
/-! PROOFS. VOICE_START: a host's voice plays frame 0 (03, R58, R60, R61, R70). -/

namespace Sys2Proof.Machine

/-! ### The command in flight that waits on a job -/

/-- `s` with another table of commands in flight. -/
def State.withFlights (s : State) (l : List InFlight) : State := { s with ml := { s.ml with inflight := l } }

/-- Where the last command in flight alone waits on a job and the reader is not BLOCKED, its record is finished and its
slot freed (11, R189, R192). -/
theorem State.finishJob_last {s : State} {l : List InFlight} {e : InFlight} (hi : s.ml.inflight = l ++ [e])
    (hl : ∀ x ∈ l, x.job ≠ e.job) (hb : s.ml.reader ≠ .blocked) (h9 : s.ml.allows (linkPlus e.r 9) 15 true = true)
    (h8 : s.ml.allows (linkPlus e.r 8) 1 true = true) (res : Result) (k : Bool) :
    s.finishJob e.job res k = (s.withFlights l).outcome e.r res .none (e.clamped || k) := by
  have waits : s.ml.inflight.filter (·.job == e.job) = [e] := by simpa [hi] using hl
  have others : s.ml.inflight.filter (fun x => !(x.job == e.job)) = l := by simpa [hi] using hl
  have finishes : s.finishJob e.job res k =
      { s.withFlights l with ml := ((s.withFlights l).finish e.r res .none (e.clamped || k)).ml.slotFreed } := by
    simp only [State.finishJob, Ml.finishJob, waits, others]
    rfl
  rw [finishes, (s.withFlights l).finish_eq_outcome e.r res .none _ h9 h8, Ml.slotFreed, if_neg]
  · rfl
  · simp [State.outcome, State.withFlights, hb]

/-- A voice record that plays frame 0: what the start sets, before its first frame (03, R60). -/
def Voice.begun (x : Voice) : Voice :=
  { x with st := .playing, start := .notYet, late := false, underrunReported := false, inUnderrun := false
           priorTailing := false, env := 32768, ramp := none }

section
variable {s : State} {v : Nat} {x : Voice} {w : Word}

/-! ### The frame -/

/-- Without a ramp a voice whose frame is held supplies it under its envelope as it stands, and goes on
(03, R58, R61). -/
theorem Voice.supply_level (hd : x.pos.done = false) (hr : x.ramp = none) (hw : heldWord x.blocks x.pos.idx = some w) :
    ∃ (z : Voice) (ended : Bool), x.supply = ⟨z, scale (frameValue w) x.env, none, ended⟩ ∧ z.st = x.st ∧
      z.start = x.start ∧ z.owner = x.owner ∧ z.pos = nextPos x.desc x.desc2 x.pos ∧ z.env = x.env := by
  refine ⟨x.supply.voice, x.supply.partEnded, ?_, ?_⟩ <;> simp [Voice.supply, hd, hr, hw, stepEnvelope]

/-- A host's voice that supplies without an underrun raises nothing (03, R58, R68). -/
theorem State.supplyVoice_host (ho : (s.voice v).owner = .host) {z : Voice} {out : Int} {ended : Bool}
    (h : (s.voice v).supply = ⟨z, out, none, ended⟩) : s.supplyVoice v = (s.setVoice v z, out) := by
  simp only [State.supplyVoice, h, ho]

/-! ### The start -/

theorem State.startDue_iff (hst : (s.voice v).st = .primed) (hs : (s.voice v).start = .whenPrimed) :
    s.startDue v = true ↔ (s.voice v).startFrom ≤ s.ck.now := by
  simp [State.startDue, hst, hs]

/-- `s` with record `z` for voice `v`, and its sample `out` in the present frame (03, R60). -/
def State.plays (s : State) (v : Nat) (z : Voice) (out : Int) : State :=
  { s.setVoice v z with mx := { s.mx with frames := addToFrame s.mx.frames v out (s.pageOfVoice v) } }

/-- A host's voice starts: its record and its frame change, and its command finishes DONE (03, R60). -/
theorem State.beginVoice_host (h1 : 1 ≤ v) (h2 : v ≤ 64) (ho : (s.voice v).owner = .host)
    (hs : (s.voice v).start = .whenPrimed) (hi : s.interlocked = false) {z : Voice} {out : Int} {ended : Bool}
    (h : (s.voice v).begun.supply = ⟨z, out, none, ended⟩) : s.beginVoice v =
      (s.plays v z out).finishJob (.startVoice v false) .ok := by
  have begun : (s.setVoice v (s.voice v).begun).voice v = (s.voice v).begun := s.voice_setVoice _ h1 h2
  have supplied : (s.setVoice v (s.voice v).begun).supplyVoice v = (s.setVoice v z, out) := by
    rw [State.supplyVoice_host (by rw [begun]; exact ho) (by rw [begun]; exact h), State.setVoice_setVoice]
  have goes : s.pauseHolds .host = false := hi
  simp only [Voice.begun, ho] at supplied
  cases hl : (s.voice v).late <;>
    simp only [State.beginVoice, hl, ho, hs, goes, supplied, Bool.false_eq_true, if_false] <;> rfl

end

/-- Settles O17: the first frame is supplied at full envelope, and the one command in flight is the voice's. -/
theorem hostVoiceStarts : Obligations.HostVoiceStarts := by
  intro s v r clamped w h1 h2 hp hq hst ho hstart hd hw hi hb h9 h8
  refine ⟨fun hfrom hlock => ?_, fun early => ?_⟩
  · obtain ⟨z, ended, supplied, plays, taken, owned, moved, full⟩ :=
      Voice.supply_level (x := (s.voice v).begun) (w := w) hd rfl hw
    have due : s.startDue v = true := (State.startDue_iff hst hstart).2 hfrom
    have started : s.voiceStart v =
        ((s.plays v z (scale (frameValue w) 32768)).withFlights []).outcome r .ok .none clamped := by
      have begun : s.voiceStart v = s.beginVoice v := by rw [State.voiceStart, if_pos due, ho]
      rw [begun, State.beginVoice_host h1 h2 ho hstart hlock supplied]
      have finished := State.finishJob_last (s := s.plays v z (scale (frameValue w) 32768))
        (e := ⟨r, 8, .startVoice v false, clamped⟩) (l := []) hi (by simp) hb h9 h8 .ok false
      rwa [Bool.or_false] at finished
    have record : (((s.plays v z (scale (frameValue w) 32768)).withFlights []).outcome r .ok .none clamped).voice v =
        z := s.voice_setVoice z h1 h2
    exact ⟨_, State.runningRow hp started hq, (congrArg Voice.st record).trans plays,
      (congrArg Voice.start record).trans taken, (congrArg Voice.owner record).trans (owned.trans ho),
      (congrArg Voice.pos record).trans moved, (congrArg Voice.env record).trans full,
      fun u u1 _ hu => s.voice_setVoice_other z h1 u1 (Ne.symm hu), rfl, rfl, rfl, rfl, rfl, hq, rfl, rfl, rfl, rfl,
      rfl, rfl, rfl⟩
  · have notDue : s.startDue v = false := by
      rw [Bool.eq_false_iff, Ne, State.startDue_iff hst hstart]
      omega
    exact State.runningRow hp (f := fun s => s.voiceStart v) (if_neg (ne_true_of_eq_false notDue)) hq

end Sys2Proof.Machine
end

section
/-! PROOFS. START_VOICE: its checks in their order, and the start request that is made (03, R51, R59, R70; 11, R192). -/

namespace Sys2Proof.Machine

section
variable {s t : State} {r : Link} {i : Instr} {kind : Nat} {j : Job} {k : Bool}

/-! ### Commands that stay in flight -/

/-- A command put in flight with no notice outstanding (11, R192). -/
theorem State.Ready.exec_flies (h : s.Ready r) (hi : recordLink i = some r)
    (hf : State.runCommand i s = t.hold r kind j k) (hm : s.ml.TakesLike t.ml) (hq : t.notices = []) :
    exec i s = .next (t.flying r kind j k).granted := by
  have room : t.ml.inflight.length < 8 := by rw [hm.inflight]; exact h.room
  have idle : t.ml.reader = .waiting → t.ml.lookOwed = false := by rw [hm.reader, hm.lookOwed]; exact h.noLook
  have settled : (t.hold r kind j k).settle = t.hold r kind j k := State.settle_quiet hq
  have taken : (t.hold r kind j k).ml.afterTake = (t.flying r kind j k).ml := by
    by_cases full : t.ml.inflight.length = 7
    · simp [Ml.afterTake, State.hold, Ml.hold, State.flying, Config.inflightCapacity, full]
    · have short : (t.hold r kind j k).ml.inflight.length < 8 := by
        simp only [State.hold, Ml.hold, List.length_append, List.length_singleton]
        omega
      rw [Ml.afterTake_idle short idle]
      simp [State.hold, Ml.hold, State.flying, full]
  rw [h.exec_handed hi, State.handed, hf, settled]
  simp only [taken]
  rfl

end

section
variable {s t : State} {r : Link} {v delay : Nat} {d : DescField} {q : StartReq}

/-! ### The start request -/

theorem State.requestStart_free (hr : inSet s.vu.reserve v = false) (hs : s.vu.table = [] ∨ v ∈ s.vu.table)
    (hf : (s.voice v).st = .free) : s.requestStart v q = .ok (s.makeStart v q, false) := by
  have scheduled : s.scheduled v = true := by simpa [State.scheduled] using hs
  simp [State.requestStart, State.reserved, hr, scheduled, hf]

theorem State.requestStart_reserved (hr : inSet s.vu.reserve v = true) :
    s.requestStart v q = .error { res := .reserved } := if_pos hr

theorem State.requestStart_unscheduled (hr : inSet s.vu.reserve v = false) (hs : s.vu.table ≠ [])
    (hv : v ∉ s.vu.table) : s.requestStart v q = .error { res := .state, why := .notScheduled } := by
  have unscheduled : s.scheduled v = false := by simp [State.scheduled, hs, hv]
  simp [State.requestStart, State.reserved, hr, unscheduled]

/-- A voice neither FREE nor DRAINING takes no start request (03, R59). -/
theorem State.requestStart_busy (hr : inSet s.vu.reserve v = false) (hs : s.vu.table = [])
    (hf : (s.voice v).st ≠ .free) (hd : (s.voice v).st ≠ .draining) :
    s.requestStart v q = .error { res := .state, why := .busy } := by
  simp [State.requestStart, State.reserved, State.scheduled, hr, hs, hf, hd]

/-! ### The command -/

/-- What START_VOICE of the host asks for (03, R70). -/
def State.hostStart (s : State) (e : Desc) (delay : Nat) : StartReq :=
  ⟨.host, e, none, if delay = 0 then .whenPrimed else .at (s.ck.now + delay * s.ck.rate / 1000)⟩

/-- The descriptor of a sample without a loop (03, R51). -/
def onceDesc (d : DescField) : Desc := ⟨d.win, d.off, d.frames, d.loopStart, d.loopEnd, .once⟩

theorem descOf_once (hf : d.frames ≠ 0) (hw : d.win ≤ 15) (hm : d.mode = 0) : descOf d = some ((onceDesc d), false) := by
  simp [descOf, onceDesc, hf, hm, Nat.not_lt.2 hw]

theorem descOf_refused (h : d.frames = 0 ∨ 15 < d.win ∨ 2 < d.mode) : descOf d = none := if_pos h

theorem cmdStartVoice_range (h : v = 0 ∨ 64 < v ∨ d.frames = 0 ∨ 15 < d.win ∨ 2 < d.mode) :
    cmdStartVoice r v d delay s = s.finish r .range := by
  unfold cmdStartVoice
  by_cases hv : 1 ≤ v ∧ v ≤ 64
  · have bad : d.frames = 0 ∨ 15 < d.win ∨ 2 < d.mode := by omega
    simp [voiceNumber, hv, descOf_refused bad]
  · simp [voiceNumber, hv]

section
variable (h1 : 1 ≤ v) (h2 : v ≤ 64) (hd : descOf d = some ((onceDesc d), false)) (hl : delay ≤ 600000)
include h1 h2 hd hl

/-- A request that is made puts the record in flight (03, R70; 11, R192). -/
theorem cmdStartVoice_made (hq : s.requestStart v (s.hostStart (onceDesc d) delay) = .ok (t, false)) :
    cmdStartVoice r v d delay s = t.hold r 8 (.startVoice v false) := by
  have delayed : readDelay delay = (delay, false) := by simp [readDelay, Nat.not_lt.2 hl]
  have number : voiceNumber v = true := decide_eq_true ⟨h1, h2⟩
  simp only [State.hostStart] at hq
  simp [cmdStartVoice, number, hd, delayed, delaySamples, hq]

/-- A request that is refused finishes the record with its code (03, R59, R70). -/
theorem cmdStartVoice_refused {f : Fail} (hq : s.requestStart v (s.hostStart (onceDesc d) delay) = .error f) :
    cmdStartVoice r v d delay s = s.finish r f.res f.why := by
  have delayed : readDelay delay = (delay, false) := by simp [readDelay, Nat.not_lt.2 hl]
  have number : voiceNumber v = true := decide_eq_true ⟨h1, h2⟩
  simp only [State.hostStart] at hq
  simp [cmdStartVoice, number, hd, delayed, delaySamples, hq]

end
end

/-- Settles O37: number and descriptor are checked first, then what the request meets. -/
theorem startVoicePrimes : Obligations.StartVoicePrimes := by
  intro s r v delay d h
  have refused : ∀ {f : Fail}, 1 ≤ v → v ≤ 64 → d.frames ≠ 0 → d.win ≤ 15 → d.mode = 0 → delay ≤ 600000 →
      s.requestStart v (s.hostStart (onceDesc d) delay) = .error f →
      exec (.startVoice r v d delay) s = .next (s.outcome r f.res f.why).granted := by
    intro f h1 h2 hf hw hm hl hq
    have finished : State.runCommand (.startVoice r v d delay) s = s.finish r f.res f.why :=
      cmdStartVoice_refused h1 h2 (descOf_once hf hw hm) hl hq
    exact h.exec_refused rfl finished
  refine ⟨fun h1 h2 hf hw hm hl hr hs hst => ?_, fun _ _ bad => ?_, fun _ bad => ?_, fun h1 h2 hf hw hm hl =>
    ⟨fun hr => ?_, fun hr hs hv => ?_, fun hr hs hst => ?_⟩⟩
  · have made := cmdStartVoice_made (r := r) h1 h2 (descOf_once hf hw hm) hl (State.requestStart_free hr hs hst)
    exact h.exec_flies rfl made (.refl _) h.quiet
  · exact h.exec_refused rfl (cmdStartVoice_range bad)
  · exact h.exec_refused rfl (cmdStartVoice_range (bad.imp_right .inl))
  · exact refused (f := { res := .reserved }) h1 h2 hf hw hm hl (State.requestStart_reserved hr)
  · exact refused (f := { res := .state, why := .notScheduled }) h1 h2 hf hw hm hl
      (State.requestStart_unscheduled hr hs hv)
  · have busy : (s.voice v).st ≠ .free ∧ (s.voice v).st ≠ .draining := by rw [hst]; decide
    exact refused (f := { res := .state, why := .busy }) h1 h2 hf hw hm hl
      (State.requestStart_busy hr hs busy.1 busy.2)

end Sys2Proof.Machine
end

section
/-! PROOFS. STOP_VOICE and TEARDOWN_VOICE (03, R61–R63, R66, R71, R72). -/

namespace Sys2Proof.Machine

section
variable {s : State} {r : Link} {v n mode : Nat} {q : StopReq}

/-! ### STOP_VOICE -/

theorem stopOf_some (h : mode ≤ 2) : ∃ q, stopOf mode n = some q := by
  obtain rfl | rfl | rfl : mode = 0 ∨ mode = 1 ∨ mode = 2 := by omega
  all_goals exact ⟨_, rfl⟩

theorem stopOf_none (h : 2 < mode) : stopOf mode n = none := by
  have three : mode = mode - 3 + 3 := by omega
  rw [three]
  rfl

theorem stopOf_after (h : 1 ≤ n) : stopOf 1 n = some (.after n) := by
  have positive : n ≠ 0 := by omega
  simp [stopOf, positive]

theorem State.pageOwned_not (h : ∀ id, (s.voice v).owner ≠ .page id) : s.pageOwned v = false := by
  unfold State.pageOwned
  split
  · exact absurd ‹_› (h _)
  · rfl

theorem State.applyStopVoice_ok (h1 : 1 ≤ v) (h2 : v ≤ 64) (hq : stopOf mode n = some q)
    (ho : ∀ id, (s.voice v).owner ≠ .page id) : s.applyStopVoice v mode n = .ok (s.stopVoice v q, false) := by
  have number : voiceNumber v = true := decide_eq_true ⟨h1, h2⟩
  simp [State.applyStopVoice, hq, number, State.pageOwned_not ho]

theorem State.applyStopVoice_page {id : Nat} (h1 : 1 ≤ v) (h2 : v ≤ 64) (hm : mode ≤ 2)
    (ho : (s.voice v).owner = .page id) : s.applyStopVoice v mode n = .error { res := .reserved } := by
  have number : voiceNumber v = true := decide_eq_true ⟨h1, h2⟩
  obtain ⟨q, hq⟩ := stopOf_some (n := n) hm
  simp [State.applyStopVoice, hq, number, State.pageOwned, ho]

theorem State.applyStopVoice_range (h : v = 0 ∨ 64 < v ∨ 2 < mode) :
    s.applyStopVoice v mode n = .error { res := .range } := by
  by_cases hm : 2 < mode
  · simp [State.applyStopVoice, stopOf_none hm]
  · obtain ⟨q, hq⟩ := stopOf_some (n := n) (Nat.not_lt.1 hm)
    have number : voiceNumber v = false := decide_eq_false (by omega)
    simp [State.applyStopVoice, hq, number]

/-- A sounding voice not under CUT begins its cut ramp at once (03, R62). -/
theorem State.stopVoice_cut (hst : (s.voice v).st = .playing) (hc : (s.voice v).stop ≠ .cut) :
    s.stopVoice v .cut = s.setVoice v (s.voice v).cutRamp := by
  simp [State.stopVoice, hst, Voice.inCut, hc]

/-- A stop AFTER gives a playing voice its tail, and can only shorten the one it has (03, R62, R63). -/
theorem State.stopVoice_after (hst : (s.voice v).st = .playing ∨ (s.voice v).st = .tailing)
    (hc : (s.voice v).stop ≠ .cut) : s.stopVoice v (.after n) = s.setVoice v { s.voice v with
      st := .tailing, stop := .after,
      tail := if (s.voice v).st = .tailing then min (s.voice v).tail n else n } := by
  rcases hst with hst | hst <;> simp [State.stopVoice, hst, Voice.inCut, hc]

/-- A playing voice under CUT takes no further stop (03, R62). -/
theorem State.stopVoice_under (hst : (s.voice v).st = .playing) (hc : (s.voice v).stop = .cut) :
    s.stopVoice v q = s := by
  simp [State.stopVoice, hst, Voice.inCut, hc]

theorem State.stopVoice_free (hst : (s.voice v).st = .free) : s.stopVoice v q = s := by
  simp only [State.stopVoice, hst]

/-- STOP_VOICE on a voice that no page owns acts by the state of the voice, and is DONE (03, R71). -/
theorem State.Ready.stopVoice_done {t : State} (h : s.Ready r) (h1 : 1 ≤ v) (h2 : v ≤ 64)
    (hq : stopOf mode n = some q) (ho : ∀ id, (s.voice v).owner ≠ .page id) (ht : s.stopVoice v q = t)
    (hm : s.ml.TakesLike t.ml) (hn : t.notices = []) :
    exec (.stopVoice r v mode n) s = .next (t.outcome r .ok).granted := by
  have finished : State.runCommand (.stopVoice r v mode n) s = t.finish r .ok := by
    show s.answer r (s.applyStopVoice v mode n) = _
    rw [State.applyStopVoice_ok h1 h2 hq ho, ht]
    rfl
  exact h.exec_finish rfl finished hm hn

/-! ### TEARDOWN_VOICE -/

theorem cmdTeardownVoice_range (h : v = 0 ∨ 64 < v) : cmdTeardownVoice r v s = s.finish r .range := by
  have number : voiceNumber v = false := decide_eq_false (by omega)
  simp [cmdTeardownVoice, number]

theorem cmdTeardownVoice_free (h1 : 1 ≤ v) (h2 : v ≤ 64) (hst : (s.voice v).st = .free)
    (ho : (s.voice v).owner = .none) : cmdTeardownVoice r v s = s.finish r .ok := by
  have number : voiceNumber v = true := decide_eq_true ⟨h1, h2⟩
  have unowned : s.pageOwned v = false := State.pageOwned_not fun id => by rw [ho]; exact VOwner.noConfusion
  simp [cmdTeardownVoice, number, unowned, hst]

/-- TEARDOWN_VOICE on a host's playing voice drains it with the record in flight (03, R72). -/
theorem cmdTeardownVoice_drains (h1 : 1 ≤ v) (h2 : v ≤ 64) (ho : (s.voice v).owner = .host)
    (hst : (s.voice v).st = .playing) :
    cmdTeardownVoice r v s = (s.hold r 10 (.teardown v)).drain v .tornDown := by
  have number : voiceNumber v = true := decide_eq_true ⟨h1, h2⟩
  have unowned : s.pageOwned v = false := State.pageOwned_not fun id => by rw [ho]; exact VOwner.noConfusion
  have sounding : ((s.hold r 10 (.teardown v)).voice v).st ≠ .draining := by
    rw [show ((s.hold r 10 (.teardown v)).voice v).st = .playing from hst]
    decide
  simp [cmdTeardownVoice, number, unowned, hst, State.teardown, sounding]

/-- Of the commands in flight that wait on a loose voice there is the last one alone, a TEARDOWN_VOICE put in flight
now: it finishes DONE (11, R189, R192). -/
theorem State.Loose.finishOwn {t : State} (k : s.Loose v)
    (hi : t.ml.inflight = s.ml.inflight ++ [⟨r, 10, .teardown v, false⟩]) (hb : t.ml.reader ≠ .blocked)
    (h9 : t.ml.allows (linkPlus r 9) 15 true = true) (h8 : t.ml.allows (linkPlus r 8) 1 true = true) :
    (t.finishJob (.startVoice v false) .aborted).finishJob (.teardown v) .ok =
      (t.withFlights s.ml.inflight).outcome r .ok := by
  have noStart : t.finishJob (.startVoice v false) .aborted = t := by
    refine State.finishJob_absent (fun e he => ?_) _ _
    rw [hi] at he
    rcases List.mem_append.1 he with old | new
    · exact (k.noJob e old).1
    · rw [List.mem_singleton.1 new]
      exact Job.noConfusion
  rw [noStart]
  exact State.finishJob_last (e := ⟨r, 10, .teardown v, false⟩) hi (fun e he => (k.noJob e he).2) hb h9 h8 .ok false

/-- `s` with a TEARDOWN_VOICE in flight and its voice DRAINING (03, R66, R72). -/
def State.tearing (s : State) (r : Link) (v : Nat) : State :=
  (s.hold r 10 (.teardown v)).setVoice v ((s.voice v).draining .tornDown)

/-- With no fetch outstanding the voice is FREE at once, and the record that was put in flight is finished
(03, R66, R72; 11, R192). -/
theorem State.Loose.cmdTeardownVoice_frees (k : s.Loose v) (h : s.Ready r) (h1 : 1 ≤ v) (h2 : v ≤ 64)
    (hst : (s.voice v).st = .playing) (hf : (s.voice v).fetch = none) (hr : s.Reports 1)
    (hb : s.ml.reader ≠ .blocked) : cmdTeardownVoice r v s =
      ((s.posted clsAudio repVoiceEnd (w32 v) (w32 2) (w32 (s.voice v).underruns)).setVoice v
        Voice.reset).outcome r .ok := by
  have record : (s.tearing r v).voice v = (s.voice v).draining .tornDown := State.voice_setVoice _ _ h1 h2
  have drained : cmdTeardownVoice r v s = (s.tearing r v).freeVoice v := by
    rw [cmdTeardownVoice_drains h1 h2 k.host hst, State.drain_host (s := s.hold r 10 (.teardown v)) k.host]
    exact if_pos (Option.isNone_iff_eq_none.2 hf)
  rw [drained, State.freeVoice_host (s := s.tearing r v) (by rw [record]; exact k.host)
    (by rw [record]; exact k.noStart) k.kept ⟨hr.running, hr.room, hr.unknown⟩,
    k.finishOwn (r := r) (t := (s.tearing r v).posted _ _ _ _ _) rfl hb h.body h.last, record]
  rw [← State.setVoice_setVoice (s.posted _ _ _ _ _) v ((s.voice v).draining .tornDown)]
  rfl

end

/-- Settles O38: STOP_VOICE by the state it meets; TEARDOWN_VOICE by whether a fetch is outstanding. -/
theorem stopAndTeardownVoice : Obligations.StopAndTeardownVoice := by
  refine ⟨fun s r v n h h1 h2 => ?_, fun s r v h h1 h2 => ?_⟩
  · have unpaged : ∀ {o : VOwner}, (s.voice v).owner = o → (o = .host ∨ o = .none) →
        ∀ id, (s.voice v).owner ≠ .page id := by
      rintro o ho (rfl | rfl) id <;> rw [ho] <;> exact VOwner.noConfusion
    refine ⟨fun ho hst hc => ?_, fun ho hst hc hn => ?_, fun ho hst hc hn => ?_, fun mode hm ho hst hc => ?_,
      fun mode hm hst ho => ?_, fun id mode hm ho => ?_, fun u mode bad => ?_⟩
    · exact h.stopVoice_done h1 h2 (mode := 0) rfl (unpaged ho (.inl rfl)) (State.stopVoice_cut hst hc) (.refl _) h.quiet
    · have stopped := State.stopVoice_after (n := n) (.inl hst) hc
      rw [if_neg (by rw [hst]; decide)] at stopped
      exact h.stopVoice_done h1 h2 (stopOf_after hn) (unpaged ho (.inl rfl)) stopped (.refl _) h.quiet
    · have stopped := State.stopVoice_after (n := n) (.inr hst) hc
      rw [if_pos hst] at stopped
      exact h.stopVoice_done h1 h2 (stopOf_after hn) (unpaged ho (.inl rfl)) stopped (.refl _) h.quiet
    · obtain ⟨q, hq⟩ := stopOf_some (n := n) hm
      exact h.stopVoice_done h1 h2 hq (unpaged ho (.inl rfl)) (State.stopVoice_under hst hc) (.refl _) h.quiet
    · obtain ⟨q, hq⟩ := stopOf_some (n := n) hm
      exact h.stopVoice_done h1 h2 hq (unpaged ho (.inr rfl)) (State.stopVoice_free hst) (.refl _) h.quiet
    · exact h.exec_refused rfl
        (congrArg (s.answer r) (State.applyStopVoice_page (n := n) h1 h2 hm ho))
    · exact h.exec_refused rfl (congrArg (s.answer r) (State.applyStopVoice_range (n := n) bad))
  · refine ⟨fun loose hst hf hr hb => ?_, fun f loose hst hf => ?_, fun hst ho => ?_, fun u bad => ?_⟩
    · have handed := h.handed (f := State.runCommand (.teardownVoice r v))
        (loose.cmdTeardownVoice_frees h h1 h2 hst hf hr hb) h.quiet rfl rfl rfl
      rw [h.exec_handed rfl, handed]
    · have drained : State.runCommand (.teardownVoice r v) s =
          (s.setVoice v ((s.voice v).draining .tornDown)).hold r 10 (.teardown v) :=
        (cmdTeardownVoice_drains h1 h2 loose.host hst).trans
          (State.drain_fetching (s := s.hold r 10 (.teardown v)) loose.host hf _)
      exact h.exec_flies rfl drained (.refl _) h.quiet
    · exact h.exec_refused rfl (cmdTeardownVoice_free h1 h2 hst ho)
    · exact h.exec_refused rfl (cmdTeardownVoice_range bad)

end Sys2Proof.Machine
end

section
/-! PROOFS. SET_RESERVE and SET_SCHEDULE (03, R68, R73, R74; 06, R130). -/

namespace Sys2Proof.Machine

section
variable {s t : State} {r : Link} {i : Instr}

/-! ### A scan without a page that waits -/

/-- A scan of the arbiter examines the WAITING pages; without one it does nothing (06, R130, R131). -/
theorem State.scan_noneWaiting (h : ∀ p ∈ s.rc.pages, p.st ≠ .waiting) : s.scan = s := by
  have none : s.rc.pages.filter (·.st == .waiting) = [] := by simpa using h
  simp [State.scan, none]

/-- A command that is DONE with a scan asked for, where no page waits (03, R68; 06, R130). -/
theorem State.Ready.exec_scans (h : s.Ready r) {b : Bool} (hi : recordLink i = some r)
    (hf : State.runCommand i s = (if b then t.tell .scan else t).finish r .ok) (hm : s.ml.TakesLike t.ml)
    (hq : t.notices = []) (hw : ∀ p ∈ t.rc.pages, p.st ≠ .waiting) :
    exec i s = .next (t.outcome r .ok).granted := by
  cases b with
  | false => exact h.exec_finish hi hf hm hq
  | true =>
    have finished : State.runCommand i s = (t.outcome r .ok).tell .scan :=
      hf.trans (h.finish (t.tell .scan) hm.windows .ok .none false)
    have idle : (t.outcome r .ok).notice .scan = t.outcome r .ok := State.scan_noneWaiting (s := t.outcome r .ok) hw
    have settled : ((t.outcome r .ok).tell .scan).settle = t.outcome r .ok :=
      (State.settle_one (s := t.outcome r .ok) hq (by rw [idle]; exact hq)).trans idle
    have handed := h.handed (f := fun _ => t.outcome r .ok) (t := t) rfl hq hm.inflight hm.reader hm.lookOwed
    have same : s.handed (State.runCommand i) = s.handed fun _ => t.outcome r .ok := by
      have quiet : (t.outcome r .ok).settle = t.outcome r .ok := State.settle_quiet hq
      simp only [State.handed, finished, settled, quiet]
    rw [h.exec_handed hi, same, handed]

/-! ### The checks -/

variable {v n : Nat} {x : BitVec 64} {l : List Nat}

theorem State.reserveChecks :
    (oneTo 64).any (fun v => inSet x v != s.reserved v && (s.voice v).st != .free) = true ↔
      ∃ v, 1 ≤ v ∧ v ≤ 64 ∧ inSet x v ≠ inSet s.vu.reserve v ∧ (s.voice v).st ≠ .free := by
  simp [mem_oneTo, State.reserved, and_assoc]

theorem State.scheduleChecks :
    (oneTo 64).any (fun v => (s.voice v).st != .free && !l.contains v) = true ↔
      ∃ v, 1 ≤ v ∧ v ≤ 64 ∧ (s.voice v).st ≠ .free ∧ v ∉ l := by
  simp [mem_oneTo, and_assoc]

/-- SET_RESERVE where every voice whose membership changes is FREE (03, R73). -/
theorem State.applySetReserve_ok (h : ∀ v, 1 ≤ v → v ≤ 64 → inSet x v ≠ inSet s.vu.reserve v → (s.voice v).st = .free) :
    ∃ b : Bool, s.applySetReserve x = .ok (if b then
      ({ s with vu := { s.vu with reserve := x } } : State).tell .scan
      else { s with vu := { s.vu with reserve := x } }, false) := by
  refine ⟨_, if_neg fun hc => ?_⟩
  obtain ⟨v, h1, h2, hx, hst⟩ := State.reserveChecks.1 hc
  exact hst (h v h1 h2 hx)

theorem State.applySetReserve_refused
    (h : ∃ v, 1 ≤ v ∧ v ≤ 64 ∧ inSet x v ≠ inSet s.vu.reserve v ∧ (s.voice v).st ≠ .free) :
    s.applySetReserve x = .error { res := .state } := if_pos (State.reserveChecks.2 h)

theorem scheduleNumbers : (!l.all voiceNumber) = true ↔ ∃ v ∈ l, v = 0 ∨ 64 < v := by
  have outside : ∀ v, voiceNumber v = false ↔ v = 0 ∨ 64 < v := fun v => by
    rw [voiceNumber, decide_eq_false_iff_not]
    omega
  simp [outside]

theorem State.applySetSchedule_range (h : 64 < n ∨ ∃ v ∈ l, v = 0 ∨ 64 < v) :
    s.applySetSchedule n l = .error { res := .range } := if_pos (h.imp_right scheduleNumbers.2)

theorem scheduleInRange (hn : n ≤ 64) (hl : ∀ v ∈ l, 1 ≤ v ∧ v ≤ 64) :
    ¬ (64 < n ∨ (!l.all voiceNumber) = true) := by
  rw [scheduleNumbers]
  rintro (h | ⟨v, hv, h⟩)
  · omega
  · have := hl v hv
    omega

/-- A table that leaves out a voice that is not FREE is refused, unless it is empty (03, R74). -/
theorem State.applySetSchedule_refused (hn : n ≤ 64) (hl : ∀ v ∈ l, 1 ≤ v ∧ v ≤ 64) (he : l ≠ [])
    (h : ∃ v, 1 ≤ v ∧ v ≤ 64 ∧ (s.voice v).st ≠ .free ∧ v ∉ l) :
    s.applySetSchedule n l = .error { res := .state } :=
  (if_neg (scheduleInRange hn hl)).trans (if_pos ⟨by simpa using he, State.scheduleChecks.2 h⟩)

/-- SET_SCHEDULE of a list that passes its checks (03, R74). -/
theorem State.applySetSchedule_ok (hn : n ≤ 64) (hl : ∀ v ∈ l, 1 ≤ v ∧ v ≤ 64)
    (h : l = [] ∨ ∀ v, 1 ≤ v → v ≤ 64 → (s.voice v).st ≠ .free → v ∈ l) :
    ∃ b : Bool, s.applySetSchedule n l = .ok (if b then
      ({ s with vu := { s.vu with table := l, index := 0 } } : State).tell .scan
      else { s with vu := { s.vu with table := l, index := 0 } }, false) := by
  refine ⟨_, (if_neg (scheduleInRange hn hl)).trans (if_neg fun hc => ?_)⟩
  obtain ⟨listed, left⟩ := hc
  obtain ⟨v, h1, h2, hst, hv⟩ := State.scheduleChecks.1 left
  rcases h with rfl | h
  · cases listed
  · exact hv (h v h1 h2 hst)

end

/-- Settles O39: each command checks its set against the voices, and a scan that it asks for finds no page waiting. -/
theorem reserveAndScheduleReplace : Obligations.ReserveAndScheduleReplace := by
  refine ⟨fun s r x h hw => ⟨fun free => ?_, fun busy => ?_⟩, fun s r n l h hw => ⟨fun bad => ?_, fun hn hl =>
    ⟨fun he out => ?_, fun fits => ?_⟩⟩⟩
  · obtain ⟨b, written⟩ := State.applySetReserve_ok free
    exact h.exec_scans (b := b) rfl (congrArg (s.answer r) written) (.refl _) h.quiet hw
  · exact h.exec_refused rfl (congrArg (s.answer r) (State.applySetReserve_refused busy))
  · exact h.exec_refused rfl (congrArg (s.answer r) (State.applySetSchedule_range bad))
  · exact h.exec_refused rfl (congrArg (s.answer r) (State.applySetSchedule_refused hn hl he out))
  · obtain ⟨b, written⟩ := State.applySetSchedule_ok hn hl fits
    exact h.exec_scans (b := b) rfl (congrArg (s.answer r) written) (.refl _) h.quiet hw

end Sys2Proof.Machine
end

section
/-! PROOFS. Triggers: the run that is made, the actions that are carried out, and what follows them (04, R89–R91,
R93). -/

namespace Sys2Proof.Machine

section
variable {s t u : State} {c : Cue} {n : Nat} {l : List Run} {x : Run}

/-! ### Runs that end -/

theorem State.runEnded_none (h : s.ce.pred = none) (n : Nat) : s.runEnded n = s := by
  simp only [State.runEnded, h]

/-- `s` with another list of runs. -/
def State.withRuns (s : State) (l : List Run) : State := { s with ce := { s.ce with runs := l } }

/-- A run with nothing left is complete: CUE_DONE, and it leaves the list (04, R93). -/
theorem State.examineRun_done (hl : s.ce.runs = l ++ [x]) (hx : ∀ y ∈ l, y.number ≠ x.number)
    (hq : ∀ q ∈ s.ce.queue, q.run ≠ x.number) (hf : ∀ f ∈ s.lv.fades, f.owner ≠ .cue x.number)
    (hp : s.ce.pred = none) (hr : s.Reports 1) : s.examineRun x.number =
      (s.withRuns l).posted clsCue repCueDone (w32 x.number) (w32 x.display) (w32 x.index) := by
  have found : s.runOf x.number = some x := by
    have before : l.find? (·.number == x.number) = none := by simpa using hx
    simp [State.runOf, hl, before]
  have left : s.ce.runs.filter (fun y => !(y.number == x.number)) = l := by simpa [hl] using hx
  have noAction : s.ce.queue.any (·.run == x.number) = false := by simpa using hq
  have noFade : s.lv.fades.any (·.owner == .cue x.number) = false := by simpa using hf
  have ends : s.examineRun x.number =
      ((s.report clsCue repCueDone (w32 x.number) (w32 x.display) (w32 x.index)).withRuns
        (s.ce.runs.filter fun y => !(y.number == x.number))).runEnded x.number := by
    simp only [State.examineRun, found, noAction, noFade, Bool.false_eq_true, or_self, if_false]
    rfl
  rw [ends, left, State.report_posted hr]
  exact State.runEnded_none (s := (s.withRuns l).posted _ _ _ _ _) hp _

/-- A run with an action in the queue goes on (04, R93). -/
theorem State.examineRun_waits (h : ∃ q ∈ s.ce.queue, q.run = n) : s.examineRun n = s := by
  have busy : s.ce.queue.any (·.run == n) = true := by simpa using h
  unfold State.examineRun
  split
  · rfl
  · exact if_pos (.inl busy)

/-- The oldest run, of which no action is left, is retired with CUE_OVERRUN (04, R89). -/
theorem State.retire_idle (hl : s.ce.runs = x :: l) (hx : ∀ y ∈ l, y.number ≠ x.number)
    (hq : ∀ q ∈ s.ce.queue, q.run ≠ x.number) (hp : s.ce.pred = none) (hr : s.Reports 1) : s.retire x =
      (s.withRuns l).posted clsCue repCueOverrun (w32 x.number) (w32 x.display) (w32 0) := by
  have gone : s.ce.queue.filter (·.run == x.number) = [] := by simpa using hq
  have kept : s.ce.queue.filter (fun q => !(q.run == x.number)) = s.ce.queue := by simpa using hq
  have left : s.ce.runs.filter (fun y => !(y.number == x.number)) = l := by simpa [hl] using hx
  have ends : s.retire x = ((s.withRuns l).report clsCue repCueOverrun (w32 x.number) (w32 x.display)
      (w32 0)).runEnded x.number := by
    simp only [State.retire, gone, kept, left]
    rfl
  rw [ends, State.report_posted (s := s.withRuns l) ⟨hr.running, hr.room, hr.unknown⟩]
  exact State.runEnded_none (s := (s.withRuns l).posted _ _ _ _ _) hp _

/-! ### The run of a trigger -/

/-- The number of the run that a trigger makes next (04, R89). -/
def State.nextRun (s : State) : Nat := (s.ce.runCounter + 1) % 2 ^ 32

/-- `s` with no GO latched and the follow timer IDLE: a trigger of the sequence begins (04, R87). -/
def State.unlatched (s : State) : State := { s with ce := { s.ce with latched := none, follow := .idle } }

/-- `s` with the run of a trigger of the sequence made (04, R89). -/
def State.ran (s : State) (c : Cue) : State :=
  { s.unlatched with ce := { s.unlatched.ce with
      runCounter := s.nextRun, runs := s.ce.runs ++ [⟨s.nextRun, c.index, c.display, s.ck.now⟩] } }

theorem State.makeRun_room (h : s.ce.runs.length < 8) (c : Cue) : s.unlatched.makeRun c = (s.ran c, s.nextRun) := by
  unfold State.makeRun
  cases hl : s.ce.runs with
  | nil =>
    simp only [State.unlatched, hl, State.ran, State.nextRun]
  | cons x l =>
    have room : ¬ (x :: l).length ≥ Config.runCapacity := by rw [← hl]; exact Nat.not_le.2 h
    simp only [State.unlatched, hl, State.ran, State.nextRun, if_neg room]

/-- Eight runs: the oldest is retired first (04, R89). -/
theorem State.makeRun_full (hl : s.ce.runs = x :: l) (h7 : l.length = 7) (hx : ∀ y ∈ l, y.number ≠ x.number)
    (hq : ∀ q ∈ s.ce.queue, q.run ≠ x.number) (hp : s.ce.pred = none) (hr : s.Reports 1) (c : Cue) :
    s.unlatched.makeRun c =
      (((s.withRuns l).posted clsCue repCueOverrun (w32 x.number) (w32 x.display) (w32 0)).ran c, s.nextRun) := by
  have full : (x :: l).length ≥ Config.runCapacity := by
    rw [List.length_cons, h7]
    decide
  have retired := State.retire_idle (s := { s.unlatched with ce := { s.unlatched.ce with runCounter := s.nextRun } })
    hl hx hq hp ⟨hr.running, hr.room, hr.unknown⟩
  simp only [State.unlatched, State.nextRun, hl] at retired
  simp only [State.makeRun, State.unlatched, hl, if_pos full, retired]
  rfl

/-! ### The parts of a trigger -/

/-- The actions of a trigger of the sequence: the hand-over of primes, the zero-delay actions, the queue (04, R90
steps 1 to 3). -/
def State.performed (s : State) (run : Nat) (c : Cue) : State :=
  (c.numbered.filter fun x => !(x.2.delay == 0)).foldl (State.enqueue run c)
    ((c.numbered.filter (·.2.delay == 0)).foldl (State.zeroDelay run c) (s.handOver false run c))

/-- `s` with the flash window begun (08, R168). -/
def State.flashes (s : State) : State :=
  { s with cu := { s.cu with flash := some (s.ck.now + s.ck.rate / 2 - 1) } }

/-- `s` after the last cue: the sequence has ended (04, R90 step 6). -/
def State.played (s : State) : State :=
  { s with ce := { s.ce with seq := .ended, armed := none, pred := none, follow := .idle } }

/-- `s` with cue `m` of the sequence being armed after run `run` (04, R79, R84, R90 step 6). -/
def State.armsNext (s : State) (run m : Nat) : State :=
  { s with ce := { s.ce with
      armed := none, follow := .idle, pred := some ⟨run, .at s.ck.now, none, false⟩, seq := .arming,
      seqArm := some ⟨Cue.start m, .index⟩ } }

theorem State.moveOn_last (h : c.next = none) (run : Nat) : s.moveOn run c = s.played := by
  rw [State.moveOn, h]
  rfl

theorem State.moveOn_next {m : Nat} (h : c.next = some m) (run : Nat) : s.moveOn run c = s.armsNext run m := by
  rw [State.moveOn, h]
  rfl

/-- A trigger of the sequence, by the run that it makes and what its actions come to. -/
theorem State.trigger_eq (hm : s.unlatched.makeRun c = (t, n)) (ha : t.performed n c = u) (hr : u.Reports 1) :
    s.trigger false c = (((u.posted clsCue repCueGo (w32 n) (w32 c.display) (w32 c.index)).flashes).moveOn n
      c).examineRun n := by
  simp only [State.unlatched] at hm
  rw [← State.report_posted hr]
  subst ha
  simp only [State.trigger, Bool.false_eq_true, if_false, hm]
  rfl

/-- A cue that is the last, with actions that leave voices changed at most, plays to the end of the sequence: its run
is made and complete at once (04, R89, R90, R93). -/
theorem State.Stands.trigger_last (h : u.Stands c) (hm : s.unlatched.makeRun c = (u.ran c, u.nextRun))
    (hn : c.next = none) (hr : u.Reports 2) {V : Vu}
    (ha : (u.ran c).performed u.nextRun c = { u.ran c with vu := V }) :
    s.trigger false c = ({ u with vu := V } : State).playedLast c := by
  have reports : ({ u.ran c with vu := V } : State).Reports 2 := ⟨hr.running, hr.room, hr.unknown⟩
  rw [State.trigger_eq hm ha (reports.mono (by decide)), State.moveOn_last hn]
  exact State.examineRun_done (x := ⟨u.nextRun, c.index, c.display, u.ck.now⟩) (l := u.ce.runs) rfl h.fresh
    h.noAction h.noFade rfl ((reports.posted clsCue repCueGo (w32 u.nextRun) (w32 c.display) (w32 c.index)).congr rfl)

end

end Sys2Proof.Machine
end

section
/-! PROOFS. GO by the state it meets (03, R69; 04, R84, R86, R87, R89–R91, R93, R100). -/

namespace Sys2Proof.Machine

section
variable {s t u : State} {r : Link} {c : Cue} {n : Nat}

/-! ### What the actions of a trigger come to -/

theorem State.performed_none (ha : c.actions = []) (hp : c.primes = []) : s.performed n c = s := by
  simp [State.performed, Cue.numbered, State.handOver, ha, hp]

/-! #### An action that starts a primed voice -/

section
variable {v : Nat} {d : DescField}

/-- A voice record that a trigger at `now` starts for run `n` (03, R69). -/
def Voice.goesFor (x : Voice) (n now : Nat) : Voice :=
  { x with owner := .cue n, start := .at now, startFrom := now + 1, late := false }

/-- The hand-over gives a primed voice to the run (04, R90 step 1). -/
theorem State.handOver_primed (hp : c.primes = [⟨0, v, .primed⟩]) (hst : (s.voice v).st = .primed)
    (ho : (s.voice v).owner = .await false) :
    s.handOver false n c = s.setVoice v { s.voice v with owner := .cue n } := by
  simp [State.handOver, hp, hst, ho]

/-- The start of a voice that is PRIMED for the run, at its time (03, R69; 04, R90 step 2, R91). -/
theorem State.zeroDelay_voice (hp : c.primes = [⟨0, v, .primed⟩]) (hst : (s.voice v).st = .primed)
    (ho : (s.voice v).owner = .cue n) :
    State.zeroDelay n c s (0, ⟨0, .startVoice v d⟩) = s.setStart v (.at s.ck.now) := by
  have primed : s.primedFor v n = true := by simp [State.primedFor, hst, ho]
  have ready : c.failedPrime 0 = none := by simp [Cue.failedPrime, hp]
  simp [State.zeroDelay, ready, State.execute, State.carryOut, State.actionHeld, State.actionVoice, primed,
    State.timeVoice]

theorem State.performed_voice (ha : c.actions = [⟨0, .startVoice v d⟩]) (hp : c.primes = [⟨0, v, .primed⟩])
    (h1 : 1 ≤ v) (h2 : v ≤ 64) (hst : (s.voice v).st = .primed) (ho : (s.voice v).owner = .await false) :
    s.performed n c = s.setVoice v ((s.voice v).goesFor n s.ck.now) := by
  have handed := State.handOver_primed (n := n) hp hst ho
  have record := s.voice_setVoice { s.voice v with owner := .cue n } h1 h2
  have started := State.zeroDelay_voice (s := s.setVoice v { s.voice v with owner := .cue n }) (n := n) (d := d) hp
    (by rw [record]; exact hst) (by rw [record])
  have once : s.performed n c = State.zeroDelay n c (s.handOver false n c) (0, ⟨0, .startVoice v d⟩) := by
    simp [State.performed, Cue.numbered, ha]
  rw [once, handed, started, State.setStart, record]
  exact State.setVoice_setVoice _ v _ _

end

/-! #### Two actions that write outputs -/

section
variable {k v d k2 v2 : Nat}

/-- An action that writes an output at once (04, R90 step 2, R92; 08, R167). -/
theorem State.zeroDelay_output (hk : 1 ≤ k ∧ k ≤ 16 ∧ v ≤ 1) :
    State.zeroDelay n c s (0, ⟨0, .setOutput k v⟩) =
      s.setOutput k { s.output k with cueValue := decide (v = 1) } := by
  have inRange : ¬ (¬ (1 ≤ k ∧ k ≤ 16) ∨ v > 1) := by omega
  have carried : s.carryOut n c.display (.setOutput k v) (c.failedPrime 0) (c.pageOf 0) =
      (s.setOutput k { s.output k with cueValue := v == 1 }, none) := if_neg inRange
  simp only [State.zeroDelay, State.execute, carried, beq_eq_decide]

/-- `s` with an output to be written for run `run`, its action number 1, after `d` ms (04, R91). -/
def State.outputDue (s : State) (run d k v : Nat) : State :=
  { s with ce := { s.ce with
      queue := insertQueued ⟨.at (s.ck.now + d * s.ck.rate / 1000), run, 1, .setOutput k v, none, none⟩
        (s.ck.now + d * s.ck.rate / 1000) s.ce.queue } }

/-- An action with a delay joins the queue (04, R90 step 3, R91). -/
theorem State.enqueue_output (hp : c.primes = []) (hg : c.pages = []) (hq : s.ce.queue.length < 128) :
    State.enqueue n c s (1, ⟨d, .setOutput k v⟩) = s.outputDue n d k v := by
  have room : ¬ s.ce.queue.length ≥ Config.queueCapacity := Nat.not_le.2 hq
  simp [State.enqueue, room, Cue.failedPrime, hp, Cue.pageOf, hg, delaySamples,
    State.outputDue]

theorem State.performed_outputs (ha : c.actions = [⟨0, .setOutput k v⟩, ⟨d, .setOutput k2 v2⟩]) (hd : d ≠ 0)
    (hp : c.primes = []) : s.performed n c =
      State.enqueue n c (State.zeroDelay n c s (0, ⟨0, .setOutput k v⟩)) (1, ⟨d, .setOutput k2 v2⟩) := by
  have numbered : c.numbered = [(0, ⟨0, .setOutput k v⟩), (1, ⟨d, .setOutput k2 v2⟩)] := by
    rw [Cue.numbered, ha]
    rfl
  simp [State.performed, numbered, hd, State.handOver, hp]

theorem mem_insertQueued (q : Queued) (due : Nat) (l : List Queued) : q ∈ insertQueued q due l := by
  induction l with
  | nil => exact List.mem_singleton.2 rfl
  | cons x l ih =>
    unfold insertQueued
    split
    · split
      · exact List.mem_cons_of_mem x ih
      · exact List.mem_cons_self
    · exact List.mem_cons_of_mem x ih

end

/-! ### GO -/

/-- A last cue's trigger only posts reports as far as the command records go. -/
theorem Ml.TakesLike.playedLast {m : Ml} (h : m.TakesLike s.ml) (c : Cue) : m.TakesLike (s.playedLast c).ml :=
  ⟨h.windows, h.inflight, h.reader, h.lookOwed⟩

theorem cmdGo_taken (h : s.goFrom .command = (t, true)) : cmdGo r s = t.finish r .ok := by
  simp [cmdGo, h]

theorem cmdGo_ignored (h : s.goFrom .command = (t, false)) : cmdGo r s = t.finish r .state := by
  simp [cmdGo, h]

/-- GO where a cue stands armed: its trigger comes to `t` (04, R86, R100). -/
theorem State.Ready.go_triggers (h : s.Ready r) (hs : s.frozen = false ∧ s.ce.seq = .standby ∧ s.ce.armed = some c)
    (ht : s.trigger false c = t) (hm : s.ml.TakesLike t.ml) (hq : t.notices = []) :
    exec (.go r) s = .next (t.outcome r .ok).granted := by
  obtain ⟨free, standby, armed⟩ := hs
  have gone : s.goFrom .command = (t, true) := by
    simp [State.goFrom, State.triggerArmed, free, standby, armed, ht]
  exact h.exec_finish rfl (cmdGo_taken gone) hm hq

/-- A GO that is ignored: GO_IGNORED with its reason (04, R86). -/
theorem State.goFrom_ignored {why : IgnoreReason}
    (h : s.frozen = true ∧ why = .held ∨
      s.frozen = false ∧ (s.ce.seq = .arming ∧ s.ce.latched.isSome ∧ why = .pending ∨
        s.ce.seq = .ended ∧ why = .ended ∨ s.ce.seq = .empty ∧ why = .empty ∨
        s.ce.seq = .faulted ∧ why = .faulted)) (src : GoSource) :
    s.goFrom src = (s.goIgnored src why, false) := by
  rcases h with ⟨hz, rfl⟩ | ⟨hz, ⟨hs, hl, rfl⟩ | ⟨hs, rfl⟩ | ⟨hs, rfl⟩ | ⟨hs, rfl⟩⟩
  · simp [State.goFrom, State.ignoreGo, hz]
  · simp [State.goFrom, State.ignoreGo, hz, hs, hl]
  all_goals simp [State.goFrom, State.ignoreGo, hz, hs]

theorem State.goIgnored_command (ha : s.ce.armed = none) (hr : s.Reports 1) (why : IgnoreReason) :
    s.goIgnored .command why = s.posted clsCue repGoIgnored (w32 0) (w32 (ignoreCode why)) (w32 0) := by
  rw [State.goIgnored, ha]
  exact State.report_posted hr _ _ _ _ _

theorem State.goFrom_latched (hz : s.frozen = false) (hs : s.ce.seq = .arming) (hl : s.ce.latched = none)
    (src : GoSource) : s.goFrom src = ({ s with ce := { s.ce with latched := some src } }, true) := by
  simp [State.goFrom, hz, hs, hl]

/-- The trigger of a cue that writes one output at once and another later, before cue `k2` (04, R84, R89–R91). -/
theorem State.NextCue.trigger {k v d k2 v2 : Nat} (h : s.NextCue c k v d k2 v2 n) (hr : s.Reports 1) :
    s.trigger false c = s.playedNext c k v d k2 v2 n := by
  have performed := State.performed_outputs (s := s.ran c) (n := s.nextRun) h.actions h.delayed h.noPrimes
  rw [State.zeroDelay_output h.output, State.enqueue_output (s := (s.ran c).setOutput k _) h.noPrimes h.noPages h.place]
    at performed
  rw [State.trigger_eq (State.makeRun_room h.room c) performed ⟨hr.running, hr.room, hr.unknown⟩,
    State.moveOn_next h.next]
  rw [State.examineRun_waits (n := s.nextRun) ⟨_, mem_insertQueued _ _ _, rfl⟩]
  rfl

end

/-- Settles O41: a trigger makes its run, carries its actions out, and moves the sequence on; any other GO is latched or
ignored. -/
theorem goActsByState : Obligations.GoActsByState := by
  intro s r h
  refine ⟨fun c hc hr => ?_, fun c k v d k2 v2 n hc hr => ?_, fun c v d hc hr ha hp hn h1 h2 hst ho => ?_,
    fun c x rest hl h7 hx hq hpred hc hr => ?_, fun hz hs hl => ?_, fun why hr ha hw => ?_⟩
  · have made := State.makeRun_room hc.room c
    exact h.go_triggers ⟨hc.free, hc.standby, hc.armed⟩
      (hc.toStands.trigger_last made hc.last hr (State.performed_none hc.empty hc.noPrimes)) ((Ml.TakesLike.refl _).playedLast c) h.quiet
  · exact h.go_triggers ⟨hc.free, hc.standby, hc.armed⟩ (hc.trigger hr) ⟨rfl, rfl, rfl, rfl⟩ h.quiet
  · have made := State.makeRun_room hc.room c
    have performed : (s.ran c).performed s.nextRun c =
        { s.ran c with vu := (s.setVoice v ((s.voice v).goesFor s.nextRun s.ck.now)).vu } :=
      State.performed_voice ha hp h1 h2 hst ho
    exact h.go_triggers ⟨hc.free, hc.standby, hc.armed⟩ (hc.trigger_last made hn hr performed)
      (Ml.TakesLike.playedLast (s := s.setVoice v _) (.refl _) c) h.quiet
  · have made := State.makeRun_full hl h7 hx hq hpred (hr.mono (by decide)) c
    have stands : ((s.withRuns rest).posted clsCue repCueOverrun (w32 x.number) (w32 x.display) (w32 0)).Stands c :=
      ⟨hc.standby, hc.armed, hc.free, hc.room, hc.fresh, hc.noAction, hc.noFade⟩
    have reports : ((s.withRuns rest).posted clsCue repCueOverrun (w32 x.number) (w32 x.display) (w32 0)).Reports 2 :=
      State.Reports.posted (s := s.withRuns rest) ⟨hr.running, hr.room, hr.unknown⟩ _ _ _ _ _
    exact h.go_triggers ⟨hc.free, hc.standby, hc.armed⟩
      (stands.trigger_last made hc.last reports (State.performed_none hc.empty hc.noPrimes))
      ((Ml.TakesLike.posted (s := s.withRuns rest) (.refl _) _ _ _ _ _).playedLast c) h.quiet
  · exact h.exec_finish rfl (cmdGo_taken (State.goFrom_latched hz hs hl .command)) (.refl _) h.quiet
  · have ignored := (State.goFrom_ignored hw .command).trans
      (congrArg (fun t => (t, false)) (State.goIgnored_command ha hr why))
    exact h.exec_finish rfl (cmdGo_ignored ignored) ⟨rfl, rfl, rfl, rfl⟩ h.quiet

end Sys2Proof.Machine
end

section
/-! PROOFS. The read arbiter: who is granted a slot, and what each user does with it (03, R55, R57; 04, R80, R94; 05,
R115, R120; 10, R185, R187; 11, R190, R191, R196, R198). -/

namespace Sys2Proof.Machine

section
variable {s t : State} {u : User}

/-! ### The grant -/

/-- Every row ends with the grants that are due (10, R187; log 32). -/
theorem exec_granted (c : Instr) (s : State) : ∃ u : State, exec c s = .next u.granted := by
  cases c <;> exact ⟨_, rfl⟩

/-- A free slot goes to the first user that waits, which makes of it what it does (10, R187). -/
theorem exec_readSlotGrant (hs : s.ml.slots.length < 8) (hu : s.nextUser = some u) (ht : s.serveUser u = t)
    (hn : t.notices = []) : exec .readSlotGrant s = .next t.granted := by
  have due : s.grantDue = some u := (if_pos hs).trans hu
  have served : s.grantRead = t := by rw [State.grantRead, due, ← ht]
  have row : exec .readSlotGrant s = .next s.grantRead.settle.granted := rfl
  rw [row, served, State.settle_quiet hn]

/-- After a window fault there is room for one report less (10, R185). -/
theorem State.Reports.faulted {n : Nat} (h : s.Reports (n + 1)) (l : Link) (b : Block) : (s.faulted l b).Reports n :=
  have before : ({ s with ml := { s.ml with
      cause := s.ml.cause ||| 0x40#32, lastFault := some ⟨l.win, l.off, b⟩ } } : State).Reports (n + 1) :=
    ⟨h.running, h.room, h.unknown⟩
  before.posted _ _ _ _ _

/-! ### The order of the users -/

theorem State.ownWaits_none (hp : s.ml.part = .running) (hl : s.ml.loads = []) : s.ownWaits = false := by
  simp [State.ownWaits, hp, hl]

theorem State.nextUser_own (hp : s.ml.part = .running) (hl : s.ml.loads ≠ [])
    (ho : ∀ o ∈ s.ml.slots, isOwnRead o.use = false) : s.nextUser = some .own := by
  have waits : s.ownWaits = true := by simpa [State.ownWaits, hp, hl] using ho
  simp [State.nextUser, waits]

/-- With no read of the ML's own due, the report writer comes first (10, R187). -/
theorem State.nextUser_reports (hp : s.ml.part = .running) (hl : s.ml.loads = []) (hw : s.ml.headWanted = true)
    (ho : s.ml.headReadOut = false) : s.nextUser = some .reports := by
  simp [State.nextUser, State.ownWaits_none hp hl, State.running, hp, hw, ho]

theorem State.nextUser_chain (hp : s.ml.part = .running) (hl : s.ml.loads = []) (hw : s.ml.headWanted = false)
    (hc : s.chainWaits = true) : s.nextUser = some .chain := by
  simp [State.nextUser, State.ownWaits_none hp hl, State.running, hp, hw, hc]

/-- The first user that waits after the chain reader. -/
def State.nextAfterChain (s : State) : Option User :=
  if (s.armWaits false).isSome then some .seqArm
  else if (s.armWaits true).isSome then some .fireArm
  else
    match s.recallWaits with
    | some q => some (.recall q.number)
    | none => if s.walkerPick.isSome then some .walker else none

theorem State.nextUser_afterChain (hp : s.ml.part = .running) (hl : s.ml.loads = []) (hw : s.ml.headWanted = false)
    (hc : s.ml.reader = .waiting ∨ s.ml.reader = .blocked) : s.nextUser = s.nextAfterChain := by
  have still : s.chainWaits = false := by rcases hc with hc | hc <;> simp [State.chainWaits, hc]
  have running : s.running = true := beq_iff_eq.2 hp
  rw [State.nextUser, State.ownWaits_none hp hl, running, hw, still]
  rfl

theorem State.armWaits_idle {fire : Bool} (h : s.arming fire = none) : s.armWaits fire = none := by
  simp [State.armWaits, h]

/-- With neither cue being armed, the recalls come first, then the walker (10, R187). -/
theorem State.nextAfterChain_idle (hs : s.ce.seqArm = none) (hf : s.ce.fireArm = none) : s.nextAfterChain =
    match s.recallWaits with
    | some q => some (.recall q.number)
    | none => if s.walkerPick.isSome then some .walker else none := by
  simp only [State.nextAfterChain, State.armWaits_idle (s := s) (fire := false) hs,
    State.armWaits_idle (s := s) (fire := true) hf, Option.isSome_none, Bool.false_eq_true, if_false]

/-! ### The ML's own reads and the report writer -/

theorem State.issueOwn_loads {q : LoadReq} {rest : List LoadReq} (hp : s.ml.part = .running)
    (hl : s.ml.loads = q :: rest) : s.issueOwn = { s with ml :=
      { s.ml.issue (.loadWindows q.r q.count) q.addr (16 * q.count) endLink with loads := rest } } := by
  simp only [State.issueOwn, hp, hl]

theorem Ml.loseQueue_one {m : Ml} {r : Report} (hq : m.queue = [r]) : m.loseQueue =
    { m.lose r.cls with queue := [] } := by
  simp [Ml.loseQueue, hq]

/-- One report of a class is lost, and the count does not stand at its end (11, R198). -/
theorem Ml.lose_counts {m : Ml} {cls : Nat} (h : tget m.lost cls 0 < 2 ^ 32 - 1) : m.lose cls =
    { m with cause := m.cause ||| 0x10#32, lost := tset m.lost cls (tget m.lost cls 0 + 1) } := by
  have below : min (tget m.lost cls 0 + 1) (2 ^ 32 - 1) = tget m.lost cls 0 + 1 := Nat.min_eq_left h
  rw [Ml.lose, below]
  rfl

/-- The writer's read of the head slot's link, or the fault that loses the queue (10, R185; 11, R196, R198). -/
theorem Ml.issueHead_eq {m : Ml} {h : Link} (hh : m.freeHead = some h) : m.issueHead =
    if m.allows h 8 false then ({ m with headWanted := false } : Ml).issue .reportHead (m.address h) 8 h
    else (({ m with headWanted := false } : Ml).recordFault h .report).loseQueue := by
  simp only [Ml.issueHead, hh]
  rfl

theorem Ml.issueHead_refused {m : Ml} {h : Link} {r : Report} (hh : m.freeHead = some h)
    (ha : m.allows h 8 false = false) (hq : m.queue = [r]) (hc : tget m.lost r.cls 0 < 2 ^ 32 - 1) : m.issueHead =
      { m with
        headWanted := false, queue := [], cause := m.cause ||| 0x40#32 ||| 0x10#32
        lastFault := some ⟨h.win, h.off, .report⟩, lost := tset m.lost r.cls (tget m.lost r.cls 0 + 1) } := by
  rw [Ml.issueHead_eq hh, if_neg (ne_true_of_eq_false ha),
    Ml.loseQueue_one (m := ({ m with headWanted := false } : Ml).recordFault h .report) hq,
    Ml.lose_counts (m := ({ m with headWanted := false } : Ml).recordFault h .report) hc]
  rfl

/-! ### The chain reader -/

/-- `s` with another state of the ML. -/
def State.withMl (s : State) (m : Ml) : State := { s with ml := m }

/-- `s` with a read issued at link `l` (10, R187). -/
def State.issues (s : State) (u : ReadUse) (l : Link) (len : Nat) : State :=
  { s with ml := s.ml.issue u (s.ml.address l) len l }

/-- The chain reader's read of `len` bytes at `l`: it is issued, or it is a window fault and the reader waits (11, R190,
R191). -/
def State.chainRead (s : State) (l : Link) (u : ReadUse) (len : Nat) : State :=
  if s.ml.allows l len false then s.issues u l len
  else { s.windowFault l .chain with ml := (s.windowFault l .chain).ml.toWaiting }

theorem State.issueChain_looking {l : Link} (hr : s.ml.reader = .looking) (hl : s.ml.position = some l) :
    s.issueChain = s.chainRead l .chainLink 8 := by
  simp only [State.issueChain, hr, hl]
  rfl

theorem State.issueChain_reading {l : Link} (hr : s.ml.reader = .reading l) :
    s.issueChain = s.chainRead l (.chainRecord l) 128 := by
  simp only [State.issueChain, hr]
  rfl

/-- No look is owed: the reader enters WAITING and stays there (11, R190). -/
theorem Ml.toWaiting_quiet {m : Ml} (h : m.lookOwed = false) : m.toWaiting = { m with reader := .waiting } := by
  simp [Ml.toWaiting, Ml.beginLook, h]

theorem State.chainRead_refused {l : Link} {r : ReadUse} {len : Nat} (h : s.ml.allows l len false = false)
    (hl : s.ml.lookOwed = false) (hr : s.Reports 1) : s.chainRead l r len =
      ({ s with ml := { s.ml with reader := .waiting } } : State).faulted l .chain := by
  rw [State.chainRead, h, State.windowFault_faulted hr, Ml.toWaiting_quiet (m := (s.faulted l .chain).ml) hl]
  rfl

theorem State.chainWaits_reads (hs : ∀ o ∈ s.ml.slots, o.use ≠ .chainLink ∧ ∀ k, o.use ≠ .chainRecord k)
    (hr : s.ml.reader = .looking ∨ ∃ l, s.ml.reader = .reading l) : s.chainWaits = true := by
  refine Bool.and_eq_true_iff.2 ⟨?_, by rcases hr with hr | ⟨l, hr⟩ <;> rw [hr]⟩
  refine (Bool.not_eq_true' _).mpr (List.any_eq_false.2 fun o ho => ?_)
  obtain ⟨noLink, noRecord⟩ := hs o ho
  split
  · exact absurd ‹_› noLink
  · exact absurd ‹_› (noRecord _)
  · exact Bool.false_ne_true

/-! ### The armings -/

section
variable {fire : Bool} {a : Arming} {k : Link}

theorem State.armWaits_index (ha : s.arming fire = some a) (hi : a.step = .index) (hb : s.ce.book = some k)
    (ho : ∀ o ∈ s.ml.slots, ∀ live, o.use ≠ .arming fire live) :
    s.armWaits fire = some (a, linkPlus k (8 * a.cue.index), 8) := by
  have notOut (live : Bool) : s.ml.isOut (.arming fire live) = false := by
    simpa [Ml.isOut] using fun o h => ho o h live
  simp [State.armWaits, notOut, ha, hb, Arming.want, hi]

/-- The user that an arming is. -/
def User.arming (fire : Bool) : User := if fire then .fireArm else .seqArm

theorem State.serveUser_arming (fire : Bool) : s.serveUser (.arming fire) = s.issueArm fire := by
  cases fire <;> rfl

theorem State.nextAfterChain_arming (h : (s.armWaits fire).isSome) (hf : fire = true → s.ce.seqArm = none) :
    s.nextAfterChain = some (.arming fire) := by
  cases fire with
  | false => simp [State.nextAfterChain, h, User.arming]
  | true => simp [State.nextAfterChain, State.armWaits_idle (s := s) (fire := false) (hf rfl), h, User.arming]

/-- The cue engine after an arming that ended with BOOK_FAULT (04, R80, R94). -/
def Ce.bookFaulted (c : Ce) (fire : Bool) : Ce :=
  if fire then { c with fire := .idle, fireArm := none } else { c with seq := .faulted, seqArm := none, armed := none }

/-- An arming without primes ends with BOOK_FAULT, no GO being latched and no command waiting for it (04, R80, R94). -/
theorem State.bookFault_posted (hp : a.cue.primes = []) (hl : s.ce.latched = none)
    (hj : ∀ e ∈ s.ml.inflight, e.job ≠ armJob fire) (hr : s.Reports 1) (why : BookReason) :
    s.bookFault fire a why =
      { s.posted clsCue repBookFault (w32 a.cue.index) (w32 (bookReasonCode why)) (w32 (if fire then 1 else 0)) with
        ce := s.ce.bookFaulted fire } := by
  have released : s.releasePrimes fire a.cue = s := by simp [State.releasePrimes, hp]
  cases fire with
  | true =>
    simp only [State.bookFault, released, State.report_posted hr]
    exact State.finishJob_absent (s := { s.posted _ _ _ _ _ with ce := s.ce.bookFaulted true }) hj _ _
  | false =>
    simp only [State.bookFault, released, State.report_posted hr, Bool.false_eq_true, if_false]
    rw [State.discardLatch_none]
    · exact State.finishJob_absent (s := { s.posted _ _ _ _ _ with ce := s.ce.bookFaulted false }) hj _ _
    · exact hl

theorem State.issueArm_eq {l : Link} {len : Nat} (h : s.armWaits fire = some (a, l, len)) : s.issueArm fire =
    if s.ml.allows l len false then s.issues (.arming fire true) l len
    else (s.windowFault l .cue).bookFault fire a .window := by
  simp only [State.issueArm, h]
  rfl

theorem State.issueArm_refused {l : Link} {len : Nat} (h : s.armWaits fire = some (a, l, len))
    (ha : s.ml.allows l len false = false) (hp : a.cue.primes = []) (hl : s.ce.latched = none)
    (hj : ∀ e ∈ s.ml.inflight, e.job ≠ armJob fire) (hr : s.Reports 2) : s.issueArm fire =
      { (s.faulted l .cue).posted clsCue repBookFault (w32 a.cue.index) (w32 (bookReasonCode .window))
          (w32 (if fire then 1 else 0)) with
        ce := s.ce.bookFaulted fire } := by
  rw [State.issueArm_eq h, if_neg (ne_true_of_eq_false ha), State.windowFault_faulted (hr.mono (by decide))]
  exact State.bookFault_posted (s := s.faulted l .cue) hp hl hj (hr.faulted l .cue) .window

end

/-! ### The recalls -/

section
variable {q x : Recall}

/-- Of two recalls the one of the lower number asks first (10, R187). -/
theorem State.recallWaits_lower (hr : s.fb.recalls = [x, q]) (hn : q.number < x.number)
    (ho : ∀ o ∈ s.ml.slots, ∀ n, o.use ≠ .scene n) : s.recallWaits = some q := by
  have notOut (n : Nat) : s.ml.isOut (.scene n) = false := by simpa [Ml.isOut] using fun o h => ho o h n
  simp [State.recallWaits, hr, notOut, hn]

theorem State.recallWaits_none (h : s.fb.recalls = []) : s.recallWaits = none := by
  simp [State.recallWaits, h]

theorem State.recallOf_lower (hr : s.fb.recalls = [x, q]) (hn : q.number < x.number) :
    s.recallOf q.number = some q := by
  simp [State.recallOf, hr, hn.ne']

/-- A recall that no command waits for ends with SCENE_SKIPPED (05, R115, R120). -/
theorem State.sceneFault_posted (hr : s.fb.recalls = [x, q]) (hn : q.number < x.number)
    (hj : ∀ e ∈ s.ml.inflight, e.job ≠ .scene q.number) (hp : s.Reports 1) (why : SceneReason) :
    s.sceneFault q why = { s.posted clsAudio repSceneSkipped (w32 0) (w32 q.scene) (w32 (sceneReasonCode why)) with
      fb := { s.fb with recalls := [x] } } := by
  have dropped : s.dropRecall q.number = { s with fb := { s.fb with recalls := [x] } } := by
    simp [State.dropRecall, hr, hn.ne']
  have skipped := State.report_posted (s := { s with fb := { s.fb with recalls := [x] } })
    ⟨hp.running, hp.room, hp.unknown⟩ clsAudio repSceneSkipped (w32 0) (w32 q.scene) (w32 (sceneReasonCode why))
  rw [State.sceneFault, dropped, State.sceneSkipped, skipped]
  exact State.finishJob_absent (s := { s.posted _ _ _ _ _ with fb := { s.fb with recalls := [x] } }) hj _ _

theorem State.issueRecall_eq (h : s.recallOf q.number = some q) : s.issueRecall q.number =
    if s.ml.allows q.place q.want false then s.issues (.scene q.number) q.place q.want
    else (s.windowFault q.place .scene).sceneFault q .window := by
  simp only [State.issueRecall, h]
  rfl

theorem State.issueRecall_refused (hr : s.fb.recalls = [x, q]) (hn : q.number < x.number)
    (ha : s.ml.allows q.place q.want false = false) (hj : ∀ e ∈ s.ml.inflight, e.job ≠ .scene q.number)
    (hp : s.Reports 2) : s.issueRecall q.number =
      { (s.faulted q.place .scene).posted clsAudio repSceneSkipped (w32 0) (w32 q.scene)
          (w32 (sceneReasonCode .window)) with
        fb := { s.fb with recalls := [x] } } := by
  rw [State.issueRecall_eq (State.recallOf_lower hr hn), if_neg (ne_true_of_eq_false ha),
    State.windowFault_faulted (hp.mono (by decide))]
  exact State.sceneFault_posted (s := s.faulted q.place .scene) hr hn hj (hp.faulted q.place .scene) .window

end

/-! ### The fetch walker -/

section
variable {v : Nat} {d : Desc}

/-- The record of a voice for which the walker asks for a block: what has been played is freed (03, R53). -/
def Voice.asks (x : Voice) : Voice := { x with blocks := freePassed x.blocks x.pos.idx }

/-- The voice record once its read of `n` frames is out (03, R55, R58). -/
def Voice.fetching (x : Voice) (n : Nat) : Voice :=
  { x.asks with
    fpos := advance x.desc x.desc2 n x.fpos, fetch := some ⟨x.fpos.idx, false, x.fpos.frame, n, false⟩ }

/-- Where the next block of a voice lies (03, R55). -/
def Voice.place (x : Voice) (d : Desc) : Link := ⟨d.win, d.off + 4 * x.fpos.frame⟩

/-- A voice that plays or will play, with a place in its buffer, no read out, and a path that goes on in its first
descriptor (03, R55). -/
structure Voice.Hungry (x : Voice) : Prop where
  used : x.st ≠ .free
  goesOn : x.st ≠ .draining
  place : x.blocks.length < 8
  noFetch : x.fetch = none
  behind : x.pos.idx ≤ x.fpos.idx
  path : x.fpos.done = false
  first : x.fpos.second = false

theorem Voice.Hungry.readPos {x : Voice} (h : x.Hungry) : x.readPos = x.fpos := if_neg (Nat.not_lt.2 h.behind)

theorem Voice.Hungry.eligible {x : Voice} (h : x.Hungry) : x.eligible = true := by
  have live :
      (x.st == .priming || x.st == .primed || x.st == .playing || x.st == .tailing || x.st == .paused) = true := by
    cases st : x.st with
    | free => exact absurd st h.used
    | draining => exact absurd st h.goesOn
    | _ => rfl
  simp [Voice.eligible, live, Config.blockCapacity, h.place, h.noFetch, h.readPos, h.path]

theorem State.walkerPick_one (ht : s.vu.table = [v]) (hi : s.vu.index = 0) (h : (s.voice v).Hungry) :
    s.walkerPick = some 0 := by
  simp [State.walkerPick, State.walkList, ht, hi, h.eligible]

/-- The walker serves the one voice of its table (03, R55, R58). -/
theorem State.walkerServe_one (ht : s.vu.table = [v]) (hi : s.vu.index = 0) (h : (s.voice v).Hungry)
    (hd : (s.voice v).desc = some d) :
    let n := runLength d (s.voice v).fpos
    let l := (s.voice v).place d
    s.walkerServe =
      if s.ml.allows l (4 * n) false then (s.setVoice v ((s.voice v).fetching n)).issues (.fetch v) l (4 * n)
      else (s.setVoice v (s.voice v).asks).voiceFault v l (s.voice v).fpos.frame := by
  have pick := State.walkerPick_one ht hi h
  have list : s.walkList = [v] := by simp [State.walkList, ht]
  have same : ({ s with vu := { s.vu with index := 0 } } : State) = s :=
    congrArg (fun n => ({ s with vu := { s.vu with index := n } } : State)) hi.symm
  have desc : descOfPos (s.voice v).desc (s.voice v).desc2 (s.voice v).fpos = some d := by
    rw [descOfPos, h.first]
    exact hd
  simp only [State.walkerServe, pick, list, List.getD_cons_zero, List.length_singleton, Nat.mod_one, same, h.readPos,
    desc, h.first]
  rfl

/-- A fetch of a loose voice that may not be made: the window fault and VOICE_FAULT, and the voice, with no fetch out,
is FREE with VOICE_END (03, R57, R66). -/
theorem State.Loose.voiceFault (h : s.Loose v) (h1 : 1 ≤ v) (h2 : v ≤ 64) (hst : (s.voice v).st ≠ .draining)
    (hf : (s.voice v).fetch = none) (hr : s.Reports 3) (l : Link) (n : Nat) : s.voiceFault v l n =
      (((s.faulted l .voice).posted clsAudio repVoiceFault (w32 v) (w32 l.win) (w32 n)).posted clsAudio repVoiceEnd
        (w32 v) (w32 (endCauseCode .fault)) (w32 (s.voice v).underruns)).setVoice v Voice.reset := by
  have two : (s.faulted l .voice).Reports 2 := hr.faulted l .voice
  have one := two.posted clsAudio repVoiceFault (w32 v) (w32 l.win) (w32 n)
  have loose : ((s.faulted l .voice).posted clsAudio repVoiceFault (w32 v) (w32 l.win) (w32 n)).Loose v :=
    h.congr rfl rfl
  have drained := loose.drain h1 h2 hf one .fault
  rw [State.voiceFault, State.windowFault_faulted (hr.mono (by decide)), State.report_posted (two.mono (by decide)),
    loose.finishStart rfl]
  exact (if_neg hst).trans drained

/-- A fetch that the walker asks for in vain leaves nothing of the voice (03, R55, R57). -/
theorem State.Loose.voiceFault_asks (h : s.Loose v) (h1 : 1 ≤ v) (h2 : v ≤ 64) (hh : (s.voice v).Hungry)
    (hr : s.Reports 3) (l : Link) (n : Nat) : (s.setVoice v (s.voice v).asks).voiceFault v l n =
      (((s.faulted l .voice).posted clsAudio repVoiceFault (w32 v) (w32 l.win) (w32 n)).posted clsAudio repVoiceEnd
        (w32 v) (w32 (endCauseCode .fault)) (w32 (s.voice v).underruns)).setVoice v Voice.reset := by
  have loose : (s.setVoice v (s.voice v).asks).Loose v := h.setVoice h1 h2 h.host h.noStart
  have record := s.voice_setVoice (s.voice v).asks h1 h2
  rw [loose.voiceFault h1 h2 (by rw [record]; exact hh.goesOn) (by rw [record]; exact hh.noFetch) (hr.congr rfl), record]
  exact State.setVoice_setVoice (((s.faulted l .voice).posted _ _ _ _ _).posted _ _ _ _ _) v (s.voice v).asks _

end

end

/-- Settles O11: the first user that waits gets the slot, and its read is issued or ends as its chapter says. -/
theorem grantGoesByUserOrder : Obligations.GrantGoesByUserOrder := by
  refine ⟨fun s => ⟨State.granted_of_none, State.grantDue_full⟩, fun c s t h => ?_,
    fun s hp hn hs => ⟨?_, ?_, ?_⟩, fun s fire a k hp hn hs hl hw hc hf ha hi hb ho => ?_,
    fun s hp hn hs hl hw hc hsa hfa => ⟨?_, ?_⟩⟩
  · obtain ⟨u, hu⟩ := exec_granted c s
    exact ⟨u, Host.Outcome.next.inj (h.symm.trans hu)⟩
  · intro q rest hl ho
    have waits : s.ml.loads ≠ [] := hl ▸ List.cons_ne_nil q rest
    exact exec_readSlotGrant hs (State.nextUser_own hp waits ho) (State.issueOwn_loads hp hl) hn
  · intro h hl hw ho hh
    have user := State.nextUser_reports hp hl hw ho
    refine ⟨fun allowed => exec_readSlotGrant hs user (congrArg s.withMl ?_) hn,
      fun r refused hq _ hc => exec_readSlotGrant hs user (congrArg s.withMl ?_) hn⟩
    · exact (Ml.issueHead_eq hh).trans (if_pos allowed)
    · exact Ml.issueHead_refused hh refused hq hc
  · intro l hl hw ho
    have user (hr : s.ml.reader = .looking ∨ ∃ l, s.ml.reader = .reading l) : s.nextUser = some .chain :=
      State.nextUser_chain hp hl hw (State.chainWaits_reads ho hr)
    refine ⟨fun hr hl allowed => exec_readSlotGrant hs (user (.inl hr)) ?_ hn,
      fun hr allowed => exec_readSlotGrant hs (user (.inr ⟨l, hr⟩)) ?_ hn, fun hr hlook hrep => ?_⟩
    · exact (State.issueChain_looking hr hl).trans (if_pos allowed)
    · exact (State.issueChain_reading hr).trans (if_pos allowed)
    · rcases hr with ⟨hr, hl, refused⟩ | ⟨hr, refused⟩
      · exact exec_readSlotGrant hs (user (.inl hr))
          ((State.issueChain_looking hr hl).trans (State.chainRead_refused refused hlook hrep)) hn
      · exact exec_readSlotGrant hs (user (.inr ⟨l, hr⟩))
          ((State.issueChain_reading hr).trans (State.chainRead_refused refused hlook hrep)) hn
  · have waits := State.armWaits_index ha hi hb ho
    have user : s.nextUser = some (.arming fire) := (State.nextUser_afterChain hp hl hw hc).trans
      (State.nextAfterChain_arming (by rw [waits]; rfl) hf)
    have serves := (State.serveUser_arming fire).trans (State.issueArm_eq waits)
    exact ⟨fun allowed => exec_readSlotGrant hs user (serves.trans (if_pos allowed)) hn,
      fun refused hr hpr hlat hj => exec_readSlotGrant hs user
        ((State.serveUser_arming fire).trans (State.issueArm_refused waits refused hpr hlat hj hr)) hn⟩
  · intro q x hq hlt hstep ho
    have user : s.nextUser = some (.recall q.number) := by
      rw [State.nextUser_afterChain hp hl hw hc, State.nextAfterChain_idle hsa hfa, State.recallWaits_lower hq hlt ho]
    have serves := State.issueRecall_eq (State.recallOf_lower hq hlt)
    have want : q.want = 8 := by rw [Recall.want, hstep]
    rw [want] at serves
    exact ⟨fun allowed => exec_readSlotGrant hs user (serves.trans (if_pos allowed)) hn,
      fun refused hr hj => exec_readSlotGrant hs user
        (State.issueRecall_refused hq hlt (by rw [want]; exact refused) hj hr) hn⟩
  · intro v d hq h1 h2 ht hi hfree hdr hb hft hpos hdone hsec hd x n l
    have hungry : x.Hungry := ⟨hfree, hdr, hb, hft, hpos, hdone, hsec⟩
    have user : s.nextUser = some .walker := by
      rw [State.nextUser_afterChain hp hl hw hc, State.nextAfterChain_idle hsa hfa, State.recallWaits_none hq,
        State.walkerPick_one ht hi hungry]
      rfl
    have serves := State.walkerServe_one ht hi hungry hd
    exact ⟨fun allowed => exec_readSlotGrant hs user (serves.trans (if_pos allowed)) hn,
      fun refused loose hr => exec_readSlotGrant hs user
        ((serves.trans (if_neg (ne_true_of_eq_false refused))).trans (loose.voiceFault_asks h1 h2 hungry hr _ _)) hn⟩

end Sys2Proof.Machine
end

section
/-! PROOFS. ACTION_DUE and FOLLOW_EXPIRED: what the cue engine does when a due sample is reached, and what it leaves
while frozen (04, R85, R91–R93, R96; 08, R167). -/

namespace Sys2Proof.Machine

section
variable {s t : State} {d : Nat}

/-! ### The front of the queue -/

section
variable {q : Queued} {rest : List Queued}

theorem State.dueAction_at (hl : s.ce.queue = q :: rest) (hd : q.due = .at d) (hn : d ≤ s.ck.now)
    (hz : s.frozen = false) : s.dueAction = some q := by
  simp [State.dueAction, hl, hd, hn, hz]

/-- While frozen nothing in the queue is due, and a remaining count is never due (04, R96). -/
theorem State.dueAction_kept (hl : s.ce.queue = q :: rest) (h : s.frozen = true ∨ ∃ n, q.due = .remaining n) :
    s.dueAction = none := by
  rcases h with hz | ⟨n, hr⟩
  · cases hd : q.due <;> simp [State.dueAction, hl, hd, hz]
  · simp [State.dueAction, hl, hr]

theorem exec_actionDue_none (h : s.dueAction = none) : exec .actionDue s = .next s.granted := by
  show execActionDue s = _
  rw [execActionDue, h]

theorem exec_actionDue_some (hp : s.ml.part = .running) (h : s.dueAction = some q) (ht : s.runDueAction q = t)
    (hn : t.notices = []) : exec .actionDue s = .next t.granted := by
  show execActionDue s = _
  rw [execActionDue, h]
  exact State.runningRow hp (f := fun s => s.runDueAction q) ht hn

/-- `s` with another queue. -/
def State.withQueue (s : State) (l : List Queued) : State := { s with ce := { s.ce with queue := l } }

/-- A due action of a run with more in the queue leaves the queue and executes; its run goes on (04, R91, R93). -/
theorem State.runDueAction_goesOn (hl : s.ce.queue = q :: rest)
    (ht : (s.withQueue rest).execute q.run (s.displayOf q.run) q.act q.body q.failed q.page = t)
    (hq : t.ce.queue = rest) (hm : ∃ x ∈ rest, x.run = q.run) : s.runDueAction q = t := by
  have left : s.ce.queue.drop 1 = rest := by rw [hl]; rfl
  have ran : s.runDueAction q = t.examineRun q.run := by
    rw [← ht]
    simp only [State.runDueAction, left]
    rfl
  rw [ran, State.examineRun_waits (by rwa [hq])]

end

/-! ### An action that writes an output -/

section
variable {k v : Nat}

theorem State.execute_output (hk : 1 ≤ k ∧ k ≤ 16 ∧ v ≤ 1) (run display act : Nat) (failed : Option Skip)
    (page : Option PageField) : s.execute run display act (.setOutput k v) failed page =
      s.setOutput k { s.output k with cueValue := decide (v = 1) } := by
  have inRange : ¬ (¬ (1 ≤ k ∧ k ≤ 16) ∨ v > 1) := by omega
  have carried : s.carryOut run display (.setOutput k v) failed page =
      (s.setOutput k { s.output k with cueValue := v == 1 }, none) := if_neg inRange
  simp only [State.execute, carried, beq_eq_decide]

/-- An output or a value out of range: ACTION_SKIPPED RANGE (04, R91; 08, R167). -/
theorem State.execute_outputSkipped (hk : k = 0 ∨ 16 < k ∨ 1 < v) (hr : s.Reports 1) (run display act : Nat)
    (failed : Option Skip) (page : Option PageField) :
    s.execute run display act (.setOutput k v) failed page =
      s.posted clsCue repActionSkipped (w32 run) (w32 act) (w32 (skipCode .range)) := by
  have outside : ¬ (1 ≤ k ∧ k ≤ 16) ∨ v > 1 := by omega
  have carried : s.carryOut run display (.setOutput k v) failed page = (s, some .range) := if_pos outside
  simp only [State.execute, carried, State.report_posted hr]

end

/-! ### The follow timer -/

theorem State.followDue_at (h : s.ce.follow = .counting (.at d)) :
    s.followDue = true ↔ d ≤ s.ck.now ∧ s.frozen = false := by
  simp [State.followDue, h]

theorem State.followDue_remaining {n : Nat} (h : s.ce.follow = .counting (.remaining n)) : s.followDue = false := by
  simp [State.followDue, h]

theorem exec_followExpired_waits (h : s.followDue = false) : exec .followExpired s = .next s.granted := by
  show execFollowExpired s = _
  rw [execFollowExpired, h, Bool.and_false]
  rfl

theorem exec_followExpired_due (hp : s.ml.part = .running) (h : s.followDue = true) (ht : s.expireFollow = t)
    (hn : t.notices = []) : exec .followExpired s = .next t.granted := by
  show execFollowExpired s = _
  rw [execFollowExpired, h, Bool.and_true]
  exact State.runningRow hp ht hn

/-- With no cue armed the timer stands EXPIRED (04, R85). -/
theorem State.expireFollow_unarmed (h : s.ce.armed = none) : s.expireFollow = s.setFollow .expired := by
  have armed : (s.setFollow .expired).ce.armed = none := h
  simp only [State.expireFollow, State.triggerArmed, armed]

/-- In STANDBY the timer triggers the armed cue, which returns it to IDLE (04, R85, R90). -/
theorem State.Stands.expireFollow {c : Cue} (h : s.Stands c) : s.expireFollow = s.trigger false c := by
  have armed : (s.setFollow .expired).ce.armed = some c := h.armed
  have standby : (s.setFollow .expired).ce.seq = .standby ∧ (!(s.setFollow .expired).frozen) = true :=
    ⟨h.standby, by show (!s.frozen) = true; rw [h.free]; rfl⟩
  simp only [State.expireFollow, State.triggerArmed, armed]
  rw [if_pos standby]
  rfl

/-- The trigger of a last cue without actions (04, R89, R90, R93). -/
theorem State.LastCue.trigger {c : Cue} (h : s.LastCue c) (hr : s.Reports 2) : s.trigger false c = s.playedLast c :=
  h.toStands.trigger_last (State.makeRun_room h.room c) h.last hr (State.performed_none h.empty h.noPrimes)

end

/-- Settles O15: the action leaves the queue and writes its output or is skipped, and its run has more to come. -/
theorem dueActionExecutes : Obligations.DueActionExecutes := by
  refine ⟨fun s q rest d k v hp hn hl hd hnow hb more => ⟨fun hz h1 h2 hv => ?_, fun hz hr bad => ?_⟩,
    fun s q rest hl kept => exec_actionDue_none (State.dueAction_kept hl kept)⟩
  · have written := State.execute_output (s := s.withQueue rest) ⟨h1, h2, hv⟩ q.run (s.displayOf q.run) q.act q.failed
      q.page
    rw [← hb] at written
    exact exec_actionDue_some hp (State.dueAction_at hl hd hnow hz) (State.runDueAction_goesOn hl written rfl more) hn
  · have skipped := State.execute_outputSkipped (s := s.withQueue rest) bad ⟨hr.running, hr.room, hr.unknown⟩ q.run
      (s.displayOf q.run) q.act q.failed q.page
    rw [← hb] at skipped
    exact exec_actionDue_some hp (State.dueAction_at hl hd hnow hz) (State.runDueAction_goesOn hl skipped rfl more) hn

/-- Settles O16: an expiry with no cue armed changes the timer alone, and one in STANDBY is a trigger. -/
theorem followTimerExpires : Obligations.FollowTimerExpires := by
  refine ⟨fun s d hp hn hf => ⟨fun hd hz _ ha => ?_, fun c hd hc hr => ?_, fun c k v w k2 v2 n hd hc hr => ?_,
    fun wait => ?_⟩, fun s n hf => exec_followExpired_waits (State.followDue_remaining hf)⟩
  · exact exec_followExpired_due hp ((State.followDue_at hf).2 ⟨hd, hz⟩) (State.expireFollow_unarmed ha) hn
  · exact exec_followExpired_due hp ((State.followDue_at hf).2 ⟨hd, hc.free⟩)
      (hc.toStands.expireFollow.trans (hc.trigger hr)) hn
  · exact exec_followExpired_due hp ((State.followDue_at hf).2 ⟨hd, hc.free⟩)
      (hc.toStands.expireFollow.trans (hc.trigger hr)) hn
  · refine exec_followExpired_waits (Bool.eq_false_iff.2 fun due => ?_)
    obtain ⟨reached, free⟩ := (State.followDue_at hf).1 due
    rcases wait with early | frozen
    · omega
    · simp [frozen] at free

end Sys2Proof.Machine
end

section
/-! PROOFS. Arming reads that return: the book entry and the header (04, R76, R77, R79, R80, R83). -/

namespace Sys2Proof.Machine

section
variable {s t : State} {a : Arming} {addr len : Nat} {link : Link} {b : List Byte}

/-! ### The read -/

theorem exec_armingReadComplete {fire : Bool} {d : ReadData} (h : s.armReturn fire d = t) (hn : t.notices = []) :
    exec (.armingReadComplete fire d) s = .next t.granted := by
  show execArmingReadComplete fire d s = _
  rw [execArmingReadComplete, h, State.settle_quiet hn]

/-- The only read outstanding is an arming's, and the part is RUNNING: its data goes to the arming (04, R79). -/
theorem State.armReturn_live {fire : Bool} (hp : s.ml.part = .running)
    (hs : s.ml.slots = [⟨.arming fire true, addr, len, link⟩]) (ha : s.arming fire = some a) (b : List Byte) :
    s.armReturn fire (.data b) = s.readBack.armData fire a b := by
  have live : s.ml.isOut (.arming fire true) = true := by simp [Ml.isOut, hs]
  have notStale : s.ml.isOut (.arming fire false) = false := by simp [Ml.isOut, hs]
  have running : s.running = true := beq_iff_eq.2 hp
  simp [State.armReturn, live, notStale, ha, running, Ml.freeSlot, hs, State.readBack]

/-- The read of an abandoned arming frees its slot and brings nothing (04, R83). -/
theorem State.armReturn_abandoned {fire : Bool} (hs : s.ml.slots = [⟨.arming fire false, addr, len, link⟩])
    (b : List Byte) : s.armReturn fire (.data b) = s.readBack := by
  have stale : s.ml.isOut (.arming fire false) = true := by simp [Ml.isOut, hs]
  simp [State.armReturn, stale, State.dropRead, Ml.dropRead, Ml.freeSlot, hs, State.readBack]

/-! ### What is read -/

theorem State.armData_absent {fire : Bool} (hi : a.step = .index) (he : isEnd (linkAt b 0) = true) :
    s.armData fire a b = s.bookFault fire a .absent := by
  simp [State.armData, hi, he]

theorem State.armData_entry {fire : Bool} (hi : a.step = .index) (he : isEnd (linkAt b 0) = false) :
    s.armData fire a b = s.setArming fire (some { a with step := .header (linkAt b 0) }) := by
  simp [State.armData, hi, he]

/-- A header with more than 32 actions, whatever else stands in it (04, R80; log 36). -/
theorem State.armData_count {fire : Bool} {l : Link} (hh : a.step = .header l) (hc : 32 < fieldAt b 12 1) :
    s.armData fire a b = s.bookFault fire a .count := by
  simp [State.armData, hh, readHeader, hc]

/-! ### The fault -/

/-- An arming of the sequence that has read no clamped value and no prime ends with a fault of its data, no GO being
latched: BOOK_FAULT, and its record is finished FAILED_STATE (04, R80). -/
theorem State.bookFault_finishes {r : Link} {kind : Nat} (hp : a.cue.primes = []) (hc : a.cue.clamps = 0)
    (hl : s.ce.latched = none) (hi : s.ml.inflight = [⟨r, kind, .seqArm, false⟩]) (hb : s.ml.reader ≠ .blocked)
    (h9 : s.ml.allows (linkPlus r 9) 15 true = true) (h8 : s.ml.allows (linkPlus r 8) 1 true = true)
    (hr : s.Reports 1) {why : BookReason} (hw : why ≠ .window) : s.bookFault false a why =
      (({ s.posted clsCue repBookFault (w32 a.cue.index) (w32 (bookReasonCode why)) (w32 0) with
        ce := s.ce.bookFaulted false } : State).withFlights []).outcome r .state := by
  have released : s.releasePrimes false a.cue = s := by simp [State.releasePrimes, hp]
  have unclamped : decide (a.cue.clamps > 0) = false := by simp [hc]
  simp only [State.bookFault, released, State.report_posted hr, Bool.false_eq_true, if_false, if_neg hw, unclamped]
  rw [State.discardLatch_none]
  · exact State.finishJob_last (s := { s.posted _ _ _ _ _ with ce := s.ce.bookFaulted false })
      (e := ⟨r, kind, .seqArm, false⟩) (l := []) hi (by simp) hb h9 h8 .state false
  · exact hl

end

/-- Settles O29: what was read decides whether the arming goes on to its header or ends with a fault. -/
theorem armingReadsAreJudged : Obligations.ArmingReadsAreJudged := by
  intro s a addr len r link kind b hp hn
  refine ⟨fun hs ha _ hl hcue => ⟨fun hi he => ?_, fun bad hr hf hb h9 h8 => ?_⟩, fun hs => ?_⟩
  · have entered : s.armReturn false (.data b) = _ :=
      (State.armReturn_live hp hs ha b).trans (State.armData_entry hi he)
    exact exec_armingReadComplete entered hn
  · have noPrimes : a.cue.primes = [] := by rw [hcue]; rfl
    have noClamps : a.cue.clamps = 0 := by rw [hcue]; rfl
    have reports : s.readBack.Reports 1 := ⟨hr.running, hr.room, hr.unknown⟩
    have faults {why : BookReason} (hw : why ≠ .window)
        (hd : s.readBack.armData false a b = s.readBack.bookFault false a why) :=
      ((State.armReturn_live hp hs ha b).trans hd).trans
        (State.bookFault_finishes (s := s.readBack) noPrimes noClamps hl hf hb h9 h8 reports hw)
    rcases bad with ⟨hi, he⟩ | ⟨⟨l, hh⟩, hc⟩
    · rw [if_pos hi]
      exact exec_armingReadComplete (faults (by decide) (State.armData_absent hi he)) hn
    · rw [if_neg (by simp [hh])]
      exact exec_armingReadComplete (faults (by decide) (State.armData_count hh hc)) hn
  · exact exec_armingReadComplete (State.armReturn_abandoned hs b) hn

end Sys2Proof.Machine
end

section
/-! PROOFS. LOAD_BOOK, GOTO, FIRE and STOP_CUES (04, R83, R94, R98, R99, R101). -/

namespace Sys2Proof.Machine

section
variable {s : State} {r book : Link} {n : Nat}

/-! ### An arming begins -/

/-- `s` with the arming of cue `n` of the sequence begun, and nothing known of a predecessor (04, R79, R83). -/
def State.armsFresh (s : State) (n : Nat) : State :=
  { s with ce := { s.ce with
      seq := .arming, seqArm := some ⟨Cue.start n, .index⟩, follow := .idle, pred := none } }

/-- `s` with the follow timer IDLE and no predecessor run (04, R83). -/
def State.unfollowed (s : State) : State := { s with ce := { s.ce with follow := .idle, pred := none } }

/-- Where no arming is under way and no cue stands armed, to abandon the sequence only returns the follow timer to
IDLE and forgets the predecessor (04, R83). -/
theorem State.abandonSeq_idle (ha : s.ce.seqArm = none) (hc : s.ce.armed = none) (hl : s.ce.latched = none)
    (hs : s.ml.slots = []) (hj : ∀ e ∈ s.ml.inflight, e.job ≠ .seqArm) : s.abandonSeq = s.unfollowed := by
  have noRead : s.staleRead false = s := State.staleRead_none (by simp [hs])
  have kept : ({ s with ce := { s.ce with seqArm := none, armed := none, follow := .idle, pred := none } } : State) =
      s.unfollowed := by rw [← ha, ← hc]; rfl
  have ends : s.abandonSeq = (s.unfollowed.discardLatch .abandoned).finishJob .seqArm .aborted := by
    simp only [← kept, State.abandonSeq, noRead, ha, hc, armClamped, Bool.or_self]
  rw [ends, State.discardLatch_none s.unfollowed hl]
  exact State.finishJob_absent (s := s.unfollowed) hj _ _

theorem State.abandonFire_idle (h : s.ce.fire = .idle) : s.abandonFire = s := if_pos h

theorem State.loadBook_range (h : 4095 < n) : s.loadBook r book n = s.finish r .range := if_pos (.inr h)

theorem State.loadBook_begins (hw : book.win ≤ 15) (hn : n ≤ 4095) (ha : s.ce.seqArm = none) (hc : s.ce.armed = none)
    (hl : s.ce.latched = none) (hf : s.ce.fire = .idle) (hs : s.ml.slots = [])
    (hj : ∀ e ∈ s.ml.inflight, e.job ≠ .seqArm) : s.loadBook r book n =
      (({ s with ce := { s.ce with book := some book } } : State).armsFresh n).hold r 13 .seqArm := by
  have inRange : ¬ (book.win > 15 ∨ n > 4095) := by omega
  rw [State.loadBook, if_neg inRange, State.abandonSeq_idle ha hc hl hs hj, State.abandonFire_idle]
  · rfl
  · exact hf

theorem State.gotoCue_range (h : 4095 < n) : s.gotoCue r n = s.finish r .range := if_pos h

theorem State.gotoCue_empty (hn : n ≤ 4095) (he : s.ce.seq = .empty) : s.gotoCue r n = s.finish r .state := by
  rw [State.gotoCue, if_neg (Nat.not_lt.2 hn), if_pos he]

theorem State.gotoCue_begins (hn : n ≤ 4095) (he : s.ce.seq ≠ .empty) (ha : s.ce.seqArm = none)
    (hc : s.ce.armed = none) (hl : s.ce.latched = none) (hs : s.ml.slots = [])
    (hj : ∀ e ∈ s.ml.inflight, e.job ≠ .seqArm) : s.gotoCue r n = (s.armsFresh n).hold r 14 .seqArm := by
  rw [State.gotoCue, if_neg (Nat.not_lt.2 hn), if_neg he, State.abandonSeq_idle ha hc hl hs hj]
  rfl

theorem State.fireCommand_range (h : 4095 < n) : s.fireCommand r n = s.finish r .range := if_pos h

theorem State.fireCommand_noBook (hn : n ≤ 4095) (hb : s.ce.book = none) :
    s.fireCommand r n = s.finish r .state := by
  simp [State.fireCommand, Nat.not_lt.2 hn, hb]

theorem State.fireCommand_busy (hn : n ≤ 4095) (hb : s.ce.book = some book) (hf : s.ce.fire ≠ .idle) :
    s.fireCommand r n = s.finish r .busy := by
  simp [State.fireCommand, Nat.not_lt.2 hn, hb, hf]

theorem State.fireCommand_begins (hn : n ≤ 4095) (hb : s.ce.book = some book) (hf : s.ce.fire = .idle) :
    s.fireCommand r n = (s.beginArming true n).hold r 18 .fireArm := by
  simp [State.fireCommand, Nat.not_lt.2 hn, hb, hf]

end

/-- Settles O40: each command is refused by its checks in their order, or begins its arming. -/
theorem armingCommandsBegin : Obligations.ArmingCommandsBegin := by
  intro s r book n h
  refine ⟨fun hn => ⟨?_, ?_, ?_⟩, fun hn hw _ ha hc hl hf hs hj => ?_, fun hn he ha hc hl hs hj => ?_, fun hn he => ?_,
    fun hn hb => ?_, fun b hn hb hf => ?_, fun b hn hb hf => ?_⟩
  · exact h.exec_refused rfl (State.loadBook_range hn)
  · exact h.exec_refused rfl (State.gotoCue_range hn)
  · exact h.exec_refused rfl (State.fireCommand_range hn)
  · exact h.exec_flies rfl (State.loadBook_begins hw hn ha hc hl hf hs hj) (.refl _) h.quiet
  · exact h.exec_flies rfl (State.gotoCue_begins hn (by simp [he]) ha hc hl hs hj) (.refl _) h.quiet
  · exact h.exec_refused rfl (State.gotoCue_empty hn he)
  · exact h.exec_refused rfl (State.fireCommand_noBook hn hb)
  · exact h.exec_refused rfl (State.fireCommand_busy hn hb hf)
  · exact h.exec_flies rfl (State.fireCommand_begins hn hb hf) (.refl _) h.quiet

/-! ### STOP_CUES -/

/-- A chain of operations none of which changes the state. -/
theorem State.foldl_still {α : Type} {f : State → α → State} {s : State} {l : List α} (h : ∀ x ∈ l, f s x = s) :
    l.foldl f s = s := by
  induction l with
  | nil => rfl
  | cons x xs ih =>
    rw [List.foldl_cons, h x List.mem_cons_self]
    exact ih fun y hy => h y (List.mem_cons_of_mem x hy)

section
variable (s : State)

/-- The queue is emptied, and the voices of its actions released (04, R101). -/
def State.releaseQueue : State := s.ce.queue.foldl (fun s q => s.releaseAction q.run q.body) (s.withQueue [])

/-- Every CUE-owned fade is removed (04, R101). -/
def State.stopCueFades : State := (s.lv.fades.filter fun f => isCueOwner f.owner).foldl State.stopCueFade s

/-- Every voice that is a run's is cut (04, R101). -/
def State.cutRunVoices : State :=
  (oneTo 64).foldl (fun s v => if isRunOwner (s.voice v).owner then s.stopVoice v .cut else s) s

/-- The follow timer is IDLE, and no event starts it for the cue of the sequence (04, R101). -/
def State.followOff : State :=
  { s with ce := { s.ce with follow := .idle, pred := s.ce.pred.map fun p => { p with followOff := true } } }

theorem State.stopCues_eq :
    s.stopCues = ((s.releaseQueue.stopCueFades.withRuns []).cutRunVoices.abandonFire).followOff := by
  unfold State.stopCues State.cutRunVoices
  generalize oneTo 64 = voices
  rfl

variable {s}

theorem State.releaseAction_other {x : ActionBody} (h : isStartVoice x = false) (run : Nat) :
    s.releaseAction run x = s := by
  cases x
  case startVoice => cases h
  all_goals rfl

theorem State.releaseQueue_voiceless (h : ∀ q ∈ s.ce.queue, isStartVoice q.body = false) :
    s.releaseQueue = s.withQueue [] :=
  State.foldl_still fun q hq => State.releaseAction_other (h q hq) q.run

theorem State.cutRunVoices_none (h : ∀ v, 1 ≤ v → v ≤ 64 → isRunOwner (s.voice v).owner = false) :
    s.cutRunVoices = s :=
  State.foldl_still fun v hv => by
    obtain ⟨h1, h2⟩ := mem_oneTo.1 hv
    rw [h v h1 h2]
    rfl

/-- Entries that are no remove-fades are taken out of the table one by one, by their targets (04, R101). -/
theorem State.foldl_stopCueFade (l : List Fade) (h : ∀ f ∈ l, f.remove = false) (s : State) :
    l.foldl State.stopCueFade s = s.setFades (s.lv.fades.filter fun f => decide (f.target ∉ l.map (·.target))) := by
  induction l generalizing s with
  | nil => simp [State.setFades]
  | cons f l ih =>
    have one : s.stopCueFade f = s.setFades (withoutFade s.lv.fades f.target) := by
      simp [State.stopCueFade, h f List.mem_cons_self]
    have both (g : Fade) : (decide (g.target ∉ l.map (·.target)) && !(g.target == f.target)) =
        decide (g.target ∉ (f :: l).map (·.target)) := by
      by_cases hg : g.target = f.target <;> simp [hg]
    rw [List.foldl_cons, one, ih fun g hg => h g (List.mem_cons_of_mem f hg)]
    simp only [State.setFades_lv_fades, withoutFade, List.filter_filter, both]
    rfl

/-- Where each target has one fade, a fade shares its target with a CUE-owned one only as that fade (01, R13). -/
theorem mem_cueTargets {l : List Fade} (hd : (l.map (·.target)).Nodup) {f : Fade} (hf : f ∈ l) :
    f.target ∈ (l.filter fun f => isCueOwner f.owner).map (·.target) ↔ isCueOwner f.owner = true := by
  simp only [List.mem_map, List.mem_filter]
  constructor
  · rintro ⟨g, ⟨hg, owned⟩, same⟩
    rwa [← List.inj_on_of_nodup_map hd hg hf same]
  · exact fun owned => ⟨f, ⟨hf, owned⟩, rfl⟩

theorem State.stopCueFades_eq (hd : (s.lv.fades.map (·.target)).Nodup)
    (hr : ∀ f ∈ s.lv.fades, isCueOwner f.owner = true → f.remove = false) :
    s.stopCueFades = s.setFades (s.lv.fades.filter fun f => !(isCueOwner f.owner)) := by
  have others : s.lv.fades.filter (fun f =>
      decide (f.target ∉ (s.lv.fades.filter fun f => isCueOwner f.owner).map (·.target))) =
      s.lv.fades.filter fun f => !(isCueOwner f.owner) :=
    List.filter_congr fun f hf => by simp [-List.mem_map, mem_cueTargets hd hf]
  have plain : ∀ f ∈ s.lv.fades.filter fun f => isCueOwner f.owner, f.remove = false := fun f hf =>
    hr f (List.mem_filter.1 hf).1 (List.mem_filter.1 hf).2
  rw [State.stopCueFades, State.foldl_stopCueFade _ plain, others]

/-- `s` with the engine emptied: no queue, no run, no CUE-owned fade, and no follow timer (04, R101). -/
def State.emptied (s : State) : State :=
  { s with
    ce := { s.ce with
      queue := [], runs := [], follow := .idle, pred := s.ce.pred.map fun p => { p with followOff := true } }
    lv := { s.lv with fades := s.lv.fades.filter fun f => !(isCueOwner f.owner) } }

/-- STOP_CUES where the queue starts no voice, no voice is a run's and the fire slot is IDLE. -/
theorem State.stopCues_emptied (hf : s.ce.fire = .idle) (hq : ∀ q ∈ s.ce.queue, isStartVoice q.body = false)
    (hv : ∀ v, 1 ≤ v → v ≤ 64 → isRunOwner (s.voice v).owner = false) (hd : (s.lv.fades.map (·.target)).Nodup)
    (hr : ∀ f ∈ s.lv.fades, isCueOwner f.owner = true → f.remove = false) : s.stopCues = s.emptied := by
  rw [State.stopCues_eq, State.releaseQueue_voiceless hq, State.stopCueFades_eq (s := s.withQueue []) hd hr,
    State.cutRunVoices_none, State.abandonFire_idle]
  · rfl
  · exact hf
  · exact hv

end

/-- Settles O43: what STOP_CUES removes goes without a notice, and no voice is released or cut. -/
theorem stopCuesEmptiesTheEngine : Obligations.StopCuesEmptiesTheEngine := by
  intro s r h hf hq hv hd hr
  have emptied : cmdStopCues r s = s.emptied.finish r .ok :=
    congrArg (fun t : State => t.finish r .ok) (State.stopCues_emptied hf hq hv hd hr)
  exact h.exec_finish rfl emptied (.refl _) h.quiet

end Sys2Proof.Machine
end

section
/-! PROOFS. The limiter's threshold (05, R107). -/

namespace Sys2Proof.Machine

theorem ceilingThreshold_above {c : Int} (h : -1024 < c) : ceilingThreshold c = (8388607 * gain c).fdiv 32768 :=
  if_neg (not_le.2 h)

theorem ceilingThreshold_off : ceilingThreshold (-1024) = 0 := rfl

/-- A ceiling of 0 never engages: the reduction is released toward 0 whatever the peak (05, R107, R108). -/
theorem limiterStep_unlimited (attack release : Nat) (peak x : Int) :
    limiterStep 0 attack release peak x = min (x + release) 0 :=
  if_neg fun h => lt_irrefl 0 h.1

/-- A ceiling below 0 engages at every peak above its threshold (05, R107, R108). -/
theorem limiterStep_engaged {c peak : Int} (hc : c < 0) (hp : ceilingThreshold c < peak) (attack release : Nat)
    (x : Int) : limiterStep c attack release peak x = max (x - attack) (-480) :=
  if_pos ⟨hc, hp⟩

/-- Settles O57: the threshold is cut down to a whole sample value, and a ceiling of −1024 has threshold 0. -/
theorem ceilingConvertsToThreshold : Obligations.CeilingConvertsToThreshold := by
  refine ⟨fun c h _ => ceilingThreshold_above h, by decide, by decide, by decide, by decide, by decide, by decide,
    by decide, by decide, ceilingThreshold_off, limiterStep_unlimited, fun attack release peak x hp => ?_⟩
  exact limiterStep_engaged (by decide) (ceilingThreshold_off.trans_lt hp) attack release x

end Sys2Proof.Machine
end

section
/-! PROOFS. RECALL_SCENE and the header read of a recall (05, R114–R116, R120). -/

namespace Sys2Proof.Machine

section
variable {s t : State} {r l : Link} {ms law : Nat}

/-! ### Acceptance -/

/-- The recall that a command or a cue action asks for, before its first read (05, R116). -/
def State.newRecall (s : State) (o : Option Link) (l : Link) (ms : Nat) (lw : Law) : Recall :=
  ⟨(s.fb.recallCounter + 1) % 2 ^ 32, o, l, ms, lw, .header, 0, 0, 0, [], false⟩

/-- `s` with a recall at the end of the list, and its number as the counter (05, R116). -/
def State.recalling (s : State) (q : Recall) : State :=
  { s with fb := { s.fb with recallCounter := q.number, recalls := s.fb.recalls ++ [q] } }

section
variable {lw : Law} (o : Option Link) (hl : lawOf law = some lw) (hw : l.win ≤ 15)
include hl hw

theorem State.acceptRecall_ok (hr : s.fb.recalls.length < 16) (hms : ms ≤ 3600000) : s.acceptRecall o l ms law =
    .ok (s.recalling (s.newRecall o l ms lw), (s.newRecall o l ms lw).number, false) := by
  simp [State.acceptRecall, hl, Nat.not_lt.2 hw, Config.recallCapacity, Nat.not_le.2 hr, readDuration_inside hms,
    State.recalling, State.newRecall]

theorem State.acceptRecall_full (hr : 16 ≤ s.fb.recalls.length) : s.acceptRecall o l ms law = .error .full := by
  simp [State.acceptRecall, hl, Nat.not_lt.2 hw, Config.recallCapacity, hr]

end

/-- A law code or a window out of range refuses the recall, whatever the list holds (05, R116). -/
theorem State.acceptRecall_range (o : Option Link) (h : 15 < l.win ∨ 2 < law) :
    s.acceptRecall o l ms law = .error .range := by
  unfold State.acceptRecall
  split
  · rfl
  · rename_i lw hlw
    have known : ¬ 2 < law := fun hl => by simp [lawOf_none hl] at hlw
    rw [if_pos (h.resolve_right known)]

/-- Settles O46: what acceptance comes to decides whether the record goes in flight or is finished at once. -/
theorem recallSceneJoinsTheList : Obligations.RecallSceneJoinsTheList := by
  intro s r l ms h hms
  refine ⟨fun hw hr => ?_, fun hw hr => ?_, fun law bad => ?_⟩
  · refine h.exec_flies (t := s.recalling (s.newRecall (some r) l ms .late)) rfl ?_ (.refl _) h.quiet
    show s.commandRecall r l ms 2 = _
    rw [State.commandRecall, State.acceptRecall_ok _ rfl hw hr hms]
    rfl
  · refine h.exec_refused rfl ?_
    show s.commandRecall r l ms 2 = _
    rw [State.commandRecall, State.acceptRecall_full _ rfl hw hr, readDuration_inside hms]
  · refine h.exec_refused rfl ?_
    show s.commandRecall r l ms law = _
    rw [State.commandRecall, State.acceptRecall_range _ bad]

end

section
variable {s t : State} {q : Recall} {addr len : Nat} {r link : Link} {b : List Byte}

/-! ### The read -/

theorem exec_sceneReadComplete {n : Nat} {d : ReadData} (h : s.sceneReturn n d = t) (hn : t.notices = []) :
    exec (.sceneReadComplete n d) s = .next t.granted := by
  show execSceneReadComplete n d s = _
  rw [execSceneReadComplete, h, State.settle_quiet hn]

/-- The only read outstanding is that of the only recall, and the part is RUNNING: its data goes to the recall (05,
R115). -/
theorem State.sceneReturn_live (hp : s.ml.part = .running) (hs : s.ml.slots = [⟨.scene q.number, addr, len, link⟩])
    (hr : s.fb.recalls = [q]) (b : List Byte) : s.sceneReturn q.number (.data b) = s.readBack.sceneData q b := by
  have live : s.ml.isOut (.scene q.number) = true := by simp [Ml.isOut, hs]
  have found : s.recallOf q.number = some q := by simp [State.recallOf, hr]
  have running : s.running = true := beq_iff_eq.2 hp
  simp [State.sceneReturn, live, found, running, Ml.freeSlot, hs, State.readBack]

/-! ### The header -/

/-- A recall whose header has been read: the scene's number, the mixes it names, and the first mix header as the next
read (05, R114). -/
def Recall.headed (q : Recall) (b : List Byte) : Recall :=
  { q with scene := fieldAt b 0 4, left := fieldAt b 4 1, pos := 8, step := .mixHeader }

theorem State.sceneData_header (h : q.step = .header) : s.sceneData q b =
    if 16 < fieldAt b 4 1 then s.sceneFault (q.headed b) .range
    else if fieldAt b 4 1 = 0 then s.applyRecall (q.headed b)
    else s.setRecall (q.headed b) := by
  simp only [State.sceneData, h]
  rfl

/-! ### The only recall -/

/-- `s` with another list of recalls. -/
def State.withRecalls (s : State) (l : List Recall) : State := { s with fb := { s.fb with recalls := l } }

theorem State.dropRecall_only (hr : s.fb.recalls = [q]) : s.dropRecall q.number = s.withRecalls [] := by
  simp [State.dropRecall, hr, State.withRecalls]

theorem State.setRecall_only (hr : s.fb.recalls = [q]) {x : Recall} (hx : x.number = q.number) :
    s.setRecall x = s.withRecalls [x] := by
  simp [State.setRecall, hr, hx, State.withRecalls]

section
variable (hi : s.ml.inflight = [⟨r, 21, .scene q.number, q.clamped⟩]) (hb : s.ml.reader ≠ .blocked)
  (h9 : s.ml.allows (linkPlus r 9) 15 true = true) (h8 : s.ml.allows (linkPlus r 8) 1 true = true)
include hi hb h9 h8

/-- The record of the only command in flight, which waits on a recall, is finished (05, R120; 11, R192). -/
theorem State.finishJob_scene (res : Result) : s.finishJob (.scene q.number) res q.clamped =
    (s.withFlights []).outcome r res .none q.clamped := by
  have finished := State.finishJob_last (e := ⟨r, 21, .scene q.number, q.clamped⟩) (l := []) hi (by simp) hb h9 h8
    res q.clamped
  rwa [Bool.or_self] at finished

variable (hr : s.fb.recalls = [q])
include hr

/-- A recall that names no mixes applies nothing and ends (05, R120). -/
theorem State.applyRecall_none {x : Recall} (hx : x.number = q.number) (hc : x.clamped = q.clamped)
    (hm : x.mixes = []) : s.applyRecall x =
      ((s.withRecalls []).withFlights []).outcome r .ok .none q.clamped := by
  rw [State.applyRecall, hm, hx, hc, List.foldl_nil, State.dropRecall_only hr]
  exact State.finishJob_scene (s := s.withRecalls []) hi hb h9 h8 .ok

/-- A recall refused for its data ends with SCENE_SKIPPED RANGE and nothing applied (05, R115, R120). -/
theorem State.sceneFault_range (hp : s.Reports 1) {x : Recall} (hx : x.number = q.number)
    (hc : x.clamped = q.clamped) : s.sceneFault x .range =
      (((s.withRecalls []).withFlights []).posted clsAudio repSceneSkipped (w32 0) (w32 x.scene)
        (w32 (sceneReasonCode .range))).outcome r .range .none q.clamped := by
  have reports : (s.withRecalls []).Reports 1 := hp.congr rfl
  rw [State.sceneFault, hx, hc, State.dropRecall_only hr, State.sceneSkipped, State.report_posted reports]
  exact State.finishJob_scene (s := (s.withRecalls []).posted _ _ _ _ _) hi hb h9 h8 .range

end

/-- Settles O30: the number of mixes in the header decides between the three. -/
theorem sceneReadsAreJudged : Obligations.SceneReadsAreJudged := by
  intro s q addr r link b hp hn hs hr hh _ hm hi hb h9 h8
  have read {t : State} (h : s.readBack.sceneData q b = t) (ht : t.notices = []) :
      exec (.sceneReadComplete q.number (.data b)) s = .next t.granted :=
    exec_sceneReadComplete ((State.sceneReturn_live hp hs hr b).trans h) ht
  refine ⟨fun zero => read ?_ hn, fun many hq => read ?_ hn, fun _ _ => read ?_ hn⟩
  · rw [State.sceneData_header hh, if_neg (by omega), if_pos zero]
    exact State.applyRecall_none (s := s.readBack) hi hb h9 h8 hr rfl rfl hm
  · rw [State.sceneData_header hh, if_pos many]
    exact State.sceneFault_range (s := s.readBack) hi hb h9 h8 hr ⟨hq.running, hq.room, hq.unknown⟩ rfl rfl
  · rw [State.sceneData_header hh, if_neg (by omega), if_neg (by omega)]
    exact State.setRecall_only (s := s.readBack) hr rfl

end

end Sys2Proof.Machine
end

section
/-! PROOFS. TALK (05, R110–R112, R122). -/

namespace Sys2Proof.Machine

/-- A fold in which one element alone changes the state, and leaves the others without effect. -/
theorem State.foldl_one {α : Type} {f : State → α → State} {s t : State} {l : List α} {x : α} (hx : x ∈ l)
    (hd : l.Nodup) (turn : f s x = t) (before : ∀ y ∈ l, y ≠ x → f s y = s) (after : ∀ y ∈ l, y ≠ x → f t y = t) :
    l.foldl f s = t := by
  obtain ⟨u, v, rfl⟩ := List.append_of_mem hx
  have apart := List.nodup_middle.1 hd
  have other {y : α} (hy : y ∈ u ++ v) : y ≠ x := fun e => (List.nodup_cons.1 apart).1 (e ▸ hy)
  have still : u.foldl f s = s := State.foldl_still fun y hy =>
    before y (List.mem_append_left _ hy) (other (List.mem_append_left _ hy))
  rw [List.foldl_append, still, List.foldl_cons, turn]
  exact State.foldl_still fun y hy =>
    after y (List.mem_append_right _ (List.mem_cons_of_mem x hy)) (other (List.mem_append_right _ hy))

section
variable {s : State} {r : Link} {m : Nat} {on : Bool}

/-! ### A mix follows talk -/

/-- A mix that talks just when talk is on and it is in the set stays as it is (05, R111). -/
theorem State.followTalk_still (h : (s.mix m).talking = (s.fb.talk && (s.mix m).inSet)) : s.followTalk m = s := by
  cases hx : (s.mix m).talking <;> simp [State.followTalk, ← h, hx]

/-- `s` with mix `m` turned to talking or to silence: its gate opens or shuts, and its DIM fades to the dim depth over
50 ms or to 0 over 200 ms (05, R111, R112). -/
def State.turned (s : State) (m : Nat) (on : Bool) : State :=
  (s.setMix m { s.mix m with talking := on, gate := on }).setFades (s.lv.fades ++ [⟨.dim m, .talk,
    s.levelOf (.dim m), if on then (s.mix m).dimDepth else 0, fadePeriods s.ck.rate (if on then 50 else 200), 0,
    .linear, false, false⟩])

/-- A mix of the set that lags behind talk turns; no fade runs on its DIM, and the table has a place. -/
theorem State.followTalk_turns (ht : s.fb.talk = on) (hs : (s.mix m).inSet = true) (hx : (s.mix m).talking = !on)
    (hn : s.fadeOn (.dim m) = none) (hr : s.lv.fades.length < 1024) : s.followTalk m = s.turned m on := by
  cases on with
  | true =>
    simp only [State.followTalk, ht, hs, hx, Bool.true_and, Bool.not_true]
    exact State.fadeTo_enters (s := s.setMix m _) hn hr _ _ _ _ _
  | false =>
    simp only [State.followTalk, ht, hs, hx, Bool.false_and, Bool.not_false]
    exact State.fadeTo_enters (s := s.setMix m _) hn hr _ _ _ _ _

theorem State.turned_mix (h1 : 1 ≤ m) (h2 : m ≤ 16) :
    (s.turned m on).mix m = { s.mix m with talking := on, gate := on } := s.mix_setMix _ h1 h2

theorem State.turned_mix_other (h1 : 1 ≤ m) {k : Nat} (k1 : 1 ≤ k) (hk : k ≠ m) : (s.turned m on).mix k = s.mix k :=
  s.mix_setMix_other _ h1 k1 hk.symm

/-- Where every other mix is silent and outside the set, talk turns the one mix of the set alone. -/
theorem State.followTalkAll_turns (h1 : 1 ≤ m) (h2 : m ≤ 16) (turn : s.followTalk m = s.turned m on)
    (others : ∀ k, 1 ≤ k → k ≤ 16 → k ≠ m → (s.mix k).inSet = false ∧ (s.mix k).talking = false) :
    s.followTalkAll = s.turned m on := by
  refine State.foldl_one (mem_oneTo.2 ⟨h1, h2⟩) (oneTo_nodup 16) turn (fun k hk hne => ?_) fun k hk hne => ?_
  all_goals
    obtain ⟨k1, k2⟩ := mem_oneTo.1 hk
    obtain ⟨outside, silent⟩ := others k k1 k2 hne
    apply State.followTalk_still
  · rw [outside, silent, Bool.and_false]
  · rw [State.turned_mix_other h1 k1 hne, outside, silent, Bool.and_false]

/-! ### The command -/

/-- `s` with the talk command state written (05, R110). -/
def State.withTalkCmd (s : State) (on : Bool) : State := { s with fb := { s.fb with talkCmd := on } }

/-- The value of TALK (05, R122). -/
def talkValue (on : Bool) : Nat := if on then 0 else 1

theorem State.applyTalk_value (s : State) (on : Bool) :
    s.applyTalk (talkValue on) = .ok ((s.withTalkCmd on).followTalkAll, false) := by
  cases on <;> rfl

theorem State.applyTalk_refused (s : State) {v : Nat} (h : 1 < v) : s.applyTalk v = .error { res := .range } := if_pos h

/-- TALK turns the one mix of the talk set, which lags behind it. -/
theorem State.Ready.talk_turns (h : s.Ready r) (h1 : 1 ≤ m) (h2 : m ≤ 16) (hf : s.fb.talkFn = false)
    (hs : ∀ k, 1 ≤ k → k ≤ 16 → ((s.mix k).inSet = true ↔ k = m))
    (ho : ∀ k, 1 ≤ k → k ≤ 16 → k ≠ m → (s.mix k).talking = false) (hn : s.fadeOn (.dim m) = none)
    (hr : s.lv.fades.length < 1024) (hx : (s.mix m).talking = !on) :
    exec (.talk r (talkValue on)) s = .next (((s.withTalkCmd on).turned m on).outcome r .ok).granted := by
  have talk : (s.withTalkCmd on).fb.talk = on := by simp [Fb.talk, State.withTalkCmd, hf]
  have turn := State.followTalk_turns (s := s.withTalkCmd on) talk ((hs m h1 h2).2 rfl) hx hn hr
  have all := State.followTalkAll_turns h1 h2 turn fun k k1 k2 hk =>
    ⟨Bool.eq_false_iff.2 fun e => hk ((hs k k1 k2).1 e), ho k k1 k2 hk⟩
  refine h.exec_finish (t := (s.withTalkCmd on).turned m on) rfl ?_ (.refl _) h.quiet
  show s.answer r (s.applyTalk (talkValue on)) = _
  rw [s.applyTalk_value, all]
  rfl

/-- Settles O45: the one mix of the set turns, and every other mix is left alone. -/
theorem talkOpensAndShutsTheGate : Obligations.TalkOpensAndShutsTheGate := by
  intro s r m h h1 h2 hf hs ho hn hr
  refine ⟨fun _ hx => ?_, fun _ hx => ?_, fun v hv => ?_⟩
  · exact ⟨((s.withTalkCmd true).turned m true).outcome r .ok, h.talk_turns (on := true) h1 h2 hf hs ho hn hr hx, rfl,
      State.turned_mix h1 h2, fun k k1 _ hk => State.turned_mix_other h1 k1 hk, rfl, rfl, rfl, rfl, rfl, rfl, rfl, rfl,
      rfl⟩
  · exact ⟨((s.withTalkCmd false).turned m false).outcome r .ok, h.talk_turns (on := false) h1 h2 hf hs ho hn hr hx,
      rfl, State.turned_mix h1 h2, rfl, rfl⟩
  · refine h.exec_refused rfl ?_
    show s.answer r (s.applyTalk v) = _
    rw [s.applyTalk_refused hv]
    rfl

end

end Sys2Proof.Machine
end

section
/-! PROOFS. END_PAGE and CANCEL_PAGE for pages that WAIT, are RECORDED or are absent (06, R138, R140, R141). -/

namespace Sys2Proof.Machine

section
variable {s : State} {r : Link} {i : Instr} {id : Nat} {p : Page} {c : PageCause}

/-! ### What the two commands come to -/

theorem State.applyEndPage_live (hp : s.page id = some p) (hl : p.live = true) :
    s.applyEndPage id = .ok (s.endPage id .released, false) := by
  simp only [State.applyEndPage, hp, if_pos hl]

theorem State.applyEndPage_recorded (hp : s.page id = some p) (hl : p.live = false) :
    s.applyEndPage id = .error { res := .state, why := .notLive } := by
  simp [State.applyEndPage, hp, hl]

theorem State.applyEndPage_absent (hp : s.page id = none) :
    s.applyEndPage id = .error { res := .state, why := .absent } := by
  simp only [State.applyEndPage, hp]

theorem State.applyCancelPage_present (hp : s.page id = some p) :
    s.applyCancelPage id = .ok (s.endPage id .cancelled, false) := by
  simp only [State.applyCancelPage, hp]

theorem State.applyCancelPage_absent (hp : s.page id = none) :
    s.applyCancelPage id = .error { res := .state, why := .absent } := by
  simp only [State.applyCancelPage, hp]

/-- A page is found under its own number. -/
theorem State.page_id (hp : s.page id = some p) : p.id = id := by
  simpa using List.find?_some hp

/-- A command that ends a WAITING page is DONE; the page's zones and microphone were never taken, so no scan is asked
for (06, R138). -/
theorem State.Ready.exec_endsWaiting (h : s.Ready r) (hi : recordLink i = some r) (hp : s.page id = some p)
    (hw : p.st = .waiting) (hr : s.Reports 1) (hc : c ≠ .done)
    (hf : State.runCommand i s = s.answer r (.ok (s.endPage id c, false))) :
    exec i s = .next ((((s.dropPage id).posted clsPage repPageEnded (w32 id) (w32 (pageCauseCode c))
      (w32 0)).outcome r .ok).granted) := by
  obtain rfl := State.page_id hp
  rw [State.endPage_waiting hp hw hr c hc] at hf
  exact h.exec_finish hi hf ⟨rfl, rfl, rfl, rfl⟩ h.quiet

end

/-- Settles O49: what the table holds under the number decides between the end of a WAITING page and a refusal. -/
theorem endAndCancelPage : Obligations.EndAndCancelPage := by
  refine fun s r id h => ⟨fun p hp hw hl hr => ?_, fun p hp hw hr => ?_, fun p hp hl => ?_, fun hp => ⟨?_, ?_⟩⟩
  · exact h.exec_endsWaiting rfl hp hw hr (by decide) (congrArg (s.answer r) (State.applyEndPage_live hp hl))
  · exact h.exec_endsWaiting rfl hp hw hr (by decide) (congrArg (s.answer r) (State.applyCancelPage_present hp))
  · exact h.exec_refused rfl (congrArg (s.answer r) (State.applyEndPage_recorded hp hl))
  · exact h.exec_refused rfl (congrArg (s.answer r) (State.applyEndPage_absent hp))
  · exact h.exec_refused rfl (congrArg (s.answer r) (State.applyCancelPage_absent hp))

end Sys2Proof.Machine
end

section
/-! PROOFS. SET_ROUTE: the route table and the delivery it owes (08, R161–R163). -/

namespace Sys2Proof.Machine

section
variable {s t : State} {r : Link} {i : Instr}

/-- A command that comes to a state with no notice outstanding, and changes nothing by which commands are taken
(11, R192). -/
theorem State.Ready.exec_comes (h : s.Ready r) (hi : recordLink i = some r) (hf : State.runCommand i s = t)
    (hm : s.ml.TakesLike t.ml) (hq : t.notices = []) : exec i s = .next t.granted := by
  have room : t.ml.inflight.length < 8 := by rw [hm.inflight]; exact h.room
  have idle : t.ml.reader = .waiting → t.ml.lookOwed = false := by rw [hm.reader, hm.lookOwed]; exact h.noLook
  have taken : t.ml.afterTake = t.ml := Ml.afterTake_idle room idle
  simp only [h.exec_handed hi, State.handed, hf, State.settle_quiet hq, taken]

end

/-! ### What the table becomes -/

section
variable {s t : State} {r : Link} {fn : Func} {pol : Polarity} {f c d p : Nat} {a : Bool}

theorem funcOf_none (h : 20 < f) : funcOf f = none := by
  obtain ⟨k, rfl⟩ : ∃ k, f = k + 21 := ⟨f - 21, by omega⟩
  simp [funcOf]

theorem polarityOf_none (h : 2 < p) : polarityOf p = none := by
  obtain ⟨k, rfl⟩ : ∃ k, p = k + 3 := ⟨p - 3, by omega⟩
  rfl

/-- A function, an input or a polarity out of range refuses the command (08, R163). -/
theorem State.applySetRoute_range (s : State) (h : 20 < f ∨ 24 < d ∨ 2 < p) :
    s.applySetRoute f d p = .error { res := .range } := by
  unfold State.applySetRoute
  split
  · rename_i hf hp
    have hd : 24 < d := by
      rcases h with h | h | h
      · rw [funcOf_none h] at hf; cases hf
      · exact h
      · rw [polarityOf_none h] at hp; cases hp
    exact if_pos hd
  · rfl

/-- SET_ROUTE to an input that the function may have, with a place in the table (08, R161, R163). -/
theorem State.applySetRoute_input (hf : funcOf f = some fn) (hp : polarityOf p = some pol) (h1 : 1 ≤ c)
    (h2 : c ≤ 24) (hs : s.inputShared fn c = false) (hr : s.cu.routes.length < 20) :
    s.applySetRoute f c p = .ok (s.route fn c pol) := by
  have c0 : c ≠ 0 := by omega
  simp [State.applySetRoute, hf, hp, Nat.not_lt.2 h2, c0, hs, Config.routeCapacity, Nat.not_le.2 hr]

/-- INTERLOCK in the way of the route, or another route in the way of INTERLOCK (08, R163). -/
theorem State.applySetRoute_shared (hf : funcOf f = some fn) (hp : polarityOf p = some pol) (h1 : 1 ≤ c)
    (h2 : c ≤ 24) (hs : s.inputShared fn c = true) :
    s.applySetRoute f c p = .error { res := .state, why := .interlockInput } := by
  have c0 : c ≠ 0 := by omega
  simp [State.applySetRoute, hf, hp, Nat.not_lt.2 h2, c0, hs]

theorem State.applySetRoute_away (hf : funcOf f = some fn) : s.applySetRoute f 0 0 = .ok (s.unroute fn) := by
  simp [State.applySetRoute, hf, polarityOf]

/-- An edge function takes the contact's state without a delivery (08, R162, R163). -/
theorem State.route_edge (h : isEdge fn = true) : s.route fn c pol =
    (s.setRoutes (writeRoute s.cu.routes ⟨fn, c, pol, activeAt fn pol (s.input c).closed⟩), none) := by
  simp [State.route, h]

/-- The one route of the table goes; the deactivation of an active level function is owed (08, R163). -/
theorem State.unroute_only (h : s.cu.routes = [⟨fn, d, pol, a⟩]) :
    s.unroute fn = (s.setRoutes [], if a && !isEdge fn then some (fn, d, false) else none) := by
  simp [State.unroute, h]

/-! ### What the command comes to -/

theorem cmdSetRoute_refused {res : Result} {why : Reason}
    (h : s.applySetRoute f c p = .error { res := res, why := why }) :
    cmdSetRoute r f c p s = s.finish r res why := by
  simp only [cmdSetRoute, h]

theorem cmdSetRoute_written {o : Owed} (h : s.applySetRoute f c p = .ok (t, o)) :
    cmdSetRoute r f c p s = (t.finish r .ok).deliverOwed o := by
  simp only [cmdSetRoute, h]

/-- A route written without a delivery: its record is DONE (08, R163). -/
theorem State.Ready.setRoute_written (h : s.Ready r) {l : List Route}
    (ha : s.applySetRoute f c p = .ok (s.setRoutes l, none)) :
    exec (.setRoute r f c p) s = .next ((s.setRoutes l).outcome r .ok).granted :=
  h.exec_finish rfl (cmdSetRoute_written ha) (.refl _) h.quiet

theorem State.Ready.setRoute_refused (h : s.Ready r) {res : Result} {why : Reason}
    (ha : s.applySetRoute f c p = .error { res := res, why := why }) :
    exec (.setRoute r f c p) s = .next (s.outcome r res why).granted :=
  h.exec_refused rfl (cmdSetRoute_refused ha)

/-! ### INTERLOCK is taken away -/

/-- `s` with an empty route table, the interlock LATCHED, and the record at `r` DONE (07, R154; 08, R163). -/
def State.latchedAway (s : State) (r : Link) : State :=
  ({ s with cu := { s.cu with routes := [] }, il := { s.il with st := .latched } } : State).outcome r .ok

/-- INTERLOCK_LATCHED as raised when no input is routed to INTERLOCK (07, R154). -/
def State.latchReport (s : State) : Report :=
  ⟨clsSystem, repInterlockLatched, w32 0, w32 (s.ck.now - s.il.activation), w32 0, s.ck.now⟩

/-- NONE on the active INTERLOCK in ACTIVE: the record is DONE, then the report is raised (08, R163). -/
theorem State.Ready.unrouteInterlock (h : s.Ready r) (hr : s.cu.routes = [⟨.interlock, d, pol, true⟩])
    (ha : s.il.st = .active) : State.runCommand (.setRoute r 3 0 0) s =
      { s.latchedAway r with ml := (s.latchedAway r).ml.post s.latchReport } := by
  have written : s.applySetRoute 3 0 0 = .ok (s.setRoutes [], some (.interlock, d, false)) := by
    rw [State.applySetRoute_away (fn := .interlock) rfl, State.unroute_only hr]
    rfl
  have delivered : ((s.setRoutes []).outcome r .ok).interlockDeactivation =
      { s.latchedAway r with ml := (s.latchedAway r).ml.post s.latchReport } := by
    have active : ((s.setRoutes []).outcome r .ok).il.st = .active := ha
    simp only [State.interlockDeactivation, active]
    rfl
  show cmdSetRoute r 3 0 0 s = _
  rw [cmdSetRoute_written written, h.finish (s.setRoutes []) rfl]
  exact delivered

/-! ### A report on a known link -/

variable {m : Ml} {h a n : Link} {q : Report}

/-- A report whose two writes are allowed takes the head slot: the slot is written and linked to the anchor, and the
next slot's link is not known yet (11, R196). -/
theorem Ml.takeSlot_allowed (hh : m.freeHead = some h) (ha : m.anchor = some a) (h1 : m.allows h 32 true = true)
    (h2 : m.allows a 8 true = true) : ∃ cause : BitVec 32, m.takeSlot n q = { m with
      writes := m.writes ++ [⟨reportRuns (m.address h) q⟩, ⟨[(m.address a, linkBytes h)]⟩]
      anchor := some h, freeHead := some n, nextLink := .unknown, headWanted := true, cause := cause } := by
  simp only [Ml.takeSlot, hh, ha, Option.getD_some, h1, h2, Bool.not_true, Bool.false_eq_true, if_false]
  split
  · exact ⟨_, by simp only [Ml.write, List.append_assoc]; rfl⟩
  · exact ⟨m.cause, by simp only [Ml.write, List.append_assoc]; rfl⟩

/-- A report raised while RUNNING, with an empty queue and a known next link whose writes are allowed. -/
theorem Ml.post_known (hp : m.part = .running) (hq : m.queue = []) (hn : m.nextLink = .known n)
    (hh : m.freeHead = some h) (ha : m.anchor = some a) (h1 : m.allows h 32 true = true)
    (h2 : m.allows a 8 true = true) : ∃ cause : BitVec 32, m.post q = { m with
      writes := m.writes ++ [⟨reportRuns (m.address h) q⟩, ⟨[(m.address a, linkBytes h)]⟩]
      anchor := some h, freeHead := some n, nextLink := .unknown, headWanted := true, cause := cause } := by
  obtain ⟨cause, taken⟩ := Ml.takeSlot_allowed (n := n) (q := q) hh ha h1 h2
  have running : (m.part != .running) = false := by simp [hp]
  refine ⟨cause, ?_⟩
  rw [Ml.post, running, if_neg Bool.false_ne_true, Ml.enqueue_known hq hn, taken]
  exact Ml.serve_empty (by exact hq) 64

end

/-- Settles O51: the checks decide between a refusal and a table; with NONE, INTERLOCK's deactivation follows the
finish of the record. -/
theorem setRouteWritesTheTable : Obligations.SetRouteWritesTheTable := by
  intro s r c h
  refine ⟨fun h1 h2 hr => ?_, fun d a h1 h2 hr => ?_, fun pol a h1 h2 hr => ?_, fun d hr => ?_, fun d hr ha hp => ?_,
    fun d head anchor n hr ha hq hn hh hc a1 a2 => ?_, fun f d p hc => ?_⟩
  · refine h.setRoute_written ((State.applySetRoute_input (fn := .go) (pol := .closed) rfl rfl h1 h2 ?_ ?_).trans ?_)
    · simp [State.inputShared, hr]
    · simp [hr]
    · rw [State.route_edge rfl, hr]
      rfl
  · refine h.setRoute_written ((State.applySetRoute_input (fn := .mark) (pol := .opened) rfl rfl h1 h2 ?_ ?_).trans ?_)
    · simp [State.inputShared, hr]
    · simp [hr]
    · rw [State.route_edge rfl, hr]
      rfl
  · refine h.setRoute_refused (State.applySetRoute_shared (fn := .go) (pol := .closed) rfl rfl h1 h2 ?_)
    simp [State.inputShared, hr]
  · refine h.setRoute_written ((State.applySetRoute_away (fn := .talk) rfl).trans ?_)
    rw [State.unroute_only hr]
    rfl
  · have reports : (s.latchedAway r).Reports 1 := ⟨hp.running, hp.room, hp.unknown⟩
    have posted := State.report_posted reports clsSystem repInterlockLatched (w32 0)
      (w32 (s.ck.now - s.il.activation)) (w32 0)
    exact h.exec_comes rfl ((h.unrouteInterlock hr ha).trans posted) ⟨rfl, rfl, rfl, rfl⟩ h.quiet
  · obtain ⟨cause, taken⟩ :=
      Ml.post_known (m := (s.latchedAway r).ml) (q := s.latchReport) h.running hq hn hh hc a1 a2
    have runs := h.unrouteInterlock hr ha
    rw [taken] at runs
    exact ⟨_, ⟨reportRuns (s.ml.address head) s.latchReport⟩,
      h.exec_comes rfl runs ⟨rfl, rfl, rfl, rfl⟩ h.quiet, rfl, rfl, rfl, rfl⟩
  · exact h.setRoute_refused (s.applySetRoute_range hc)

end Sys2Proof.Machine
end

section
/-! PROOFS. RESUME: the stored time, and the resume at once from LATCHED (07, R155, R156). -/

namespace Sys2Proof.Machine

section
variable {s t u : State} {r : Link} {x : Target}

/-! ### The INTERLOCK offsets -/

theorem mem_interlockTargets : x ∈ interlockTargets ↔
    (∃ b, b < 24 ∧ x = .busInterlock b) ∨ ∃ z, 1 ≤ z ∧ z ≤ 32 ∧ x = .zoneInterlock z := by
  simp [interlockTargets, mem_oneTo, and_assoc, eq_comm]

/-- What is left of `s` when the offsets of `l`, none of which fades, are set to 0. -/
structure Zeroed (l : List Target) (s t : State) : Prop where
  frame : t = { s with lv := { s.lv with busInterlock := t.lv.busInterlock, zoneInterlock := t.lv.zoneInterlock } }
  zero : ∀ x ∈ l, t.levelOf x = 0
  others : ∀ x : Target, x.wf = true → x ∉ l → t.levelOf x = s.levelOf x

theorem Zeroed.nil (s : State) : Zeroed [] s s := ⟨rfl, fun _ h => absurd h List.not_mem_nil, fun _ _ _ => rfl⟩

/-- An offset without a fade, asked to return over a time of 0, is set to 0 and does not join the resume set
(01, R7; 07, R156). -/
theorem State.resumeTarget_atOnce (hx : x ∈ interlockTargets) (h0 : s.il.resumeTime = 0) (hn : s.fadeOn x = none) :
    s.resumeTarget x = s.putLevel x 0 := by
  have set : s.fadeOrSet x 0 s.il.resumeTime .linear .interlock = s.putLevel x 0 := by
    rw [State.fadeOrSet, if_pos h0, State.setInstant_none hn]
    rcases mem_interlockTargets.1 hx with ⟨_, _, rfl⟩ | ⟨_, _, _, rfl⟩ <;> rfl
  have unfading : ((s.putLevel x 0).fadeOn x).isSome = false := by
    have kept : (s.putLevel x 0).fadeOn x = s.fadeOn x := by
      rcases mem_interlockTargets.1 hx with ⟨_, _, rfl⟩ | ⟨_, _, _, rfl⟩ <;> rfl
    rw [kept, hn]
    rfl
  simp only [State.resumeTarget, set, unfading, Bool.false_eq_true, if_false]

theorem interlockTargets_wf (hx : x ∈ interlockTargets) : x.wf = true := by
  rcases mem_interlockTargets.1 hx with ⟨b, hb, rfl⟩ | ⟨z, h1, h2, rfl⟩
  · simpa [Target.wf] using hb
  · simp [Target.wf, h1, h2]

theorem Zeroed.one (hx : x ∈ interlockTargets) : Zeroed [x] s (s.putLevel x 0) where
  frame := by rcases mem_interlockTargets.1 hx with ⟨_, _, rfl⟩ | ⟨_, _, _, rfl⟩ <;> rfl
  zero y hy := by
    obtain rfl := List.mem_singleton.1 hy
    refine s.levelOf_putLevel y 0 (interlockTargets_wf hx) fun b c e => ?_
    rcases mem_interlockTargets.1 hx with ⟨_, _, rfl⟩ | ⟨_, _, _, rfl⟩ <;> cases e
  others y hy hne := s.levelOf_putLevel_other x y 0 (interlockTargets_wf hx) hy fun e =>
    hne (List.mem_singleton.2 e.symm)

theorem Zeroed.cons {l : List Target} (hx : x.wf = true) (first : Zeroed [x] s t) (rest : Zeroed l t u) :
    Zeroed (x :: l) s u where
  frame := rest.frame.trans (by rw [first.frame])
  zero y hy := by
    by_cases later : y ∈ l
    · exact rest.zero y later
    · obtain rfl := (List.mem_cons.1 hy).resolve_right later
      rw [rest.others y hx later, first.zero y (by simp)]
  others y hy hne := by
    obtain ⟨hyx, hyl⟩ := not_or.1 (mt List.mem_cons.2 hne)
    rw [rest.others y hy hyl, first.others y hy (by simpa using hyx)]

/-- Offsets of which none fades are all set to 0. -/
theorem State.foldl_resumeTarget (l : List Target) (s : State) (hl : ∀ x ∈ l, x ∈ interlockTargets)
    (h0 : s.il.resumeTime = 0) (hn : ∀ x ∈ l, s.fadeOn x = none) : Zeroed l s (l.foldl State.resumeTarget s) := by
  induction l generalizing s with
  | nil => exact .nil s
  | cons x l ih =>
    have hx : x ∈ interlockTargets := hl x (by simp)
    have first : Zeroed [x] s (s.putLevel x 0) := .one hx
    have time : (s.putLevel x 0).il.resumeTime = 0 := by rw [first.frame]; exact h0
    have unfading : ∀ y ∈ l, (s.putLevel x 0).fadeOn y = none := fun y hy => by
      rw [first.frame]; exact hn y (by simp [hy])
    rw [List.foldl_cons, State.resumeTarget_atOnce hx h0 (hn x (by simp))]
    exact first.cons (interlockTargets_wf hx) (ih _ (fun y hy => hl y (by simp [hy])) time unfading)

/-! ### The freeze condition where the interlock lets go of it -/

/-- `s` with its levels, cue engine and voices written. -/
def State.withShow (s : State) (L : Lv) (C : Ce) (V : Vu) : State := { s with lv := L, ce := C, vu := V }

/-- The interlock lets go of the freeze condition: HOLD goes on holding it, or it ends with nothing held back; fades,
voices and the times of the cue engine change at most (04, R96, R97). -/
theorem State.afterFreeze_letsGo (hi : s.interlocked = false) (hf : s.ce.follow ≠ .expired)
    (hw : s.ce.fire ≠ .waiting) :
    ∃ F C V, s.afterFreeze true = s.withShow { s.lv with fades := F } C V ∧ C.hold = s.ce.hold := by
  have frozen : s.frozen = s.ce.hold := by
    have unlocked : (s.il.st == .active || s.il.st == .latched) = false := hi
    rw [State.frozen, Bool.or_assoc, unlocked, Bool.or_false]
  cases hold : s.ce.hold with
  | true =>
    have stays : s.afterFreeze true = s := by simp only [State.afterFreeze, frozen, hold]
    exact ⟨s.lv.fades, s.ce, s.vu, stays, hold⟩
  | false =>
    have ends : s.afterFreeze true = s.freezeEnd := by simp only [State.afterFreeze, frozen, hold]
    obtain ⟨V, hV⟩ := State.retimeVoices_vu (s.mapDue (When.thaw s.ck.now) (Since.thaw s.ck.now))
    rw [ends, State.freezeEnd, hV]
    exact ⟨_, _, _, State.takeHeldBack_none (Follow.mapWhen_expired hf) hw, hold⟩

/-! ### The resume -/

/-- An empty resume set: CLEAR, with its report (07, R156). -/
theorem State.checkResumed_clears (hs : s.il.st = .resuming) (he : s.il.resumeSet = []) (hr : s.Reports 1) :
    s.checkResumed = (s.setIl .clear).posted clsSystem repInterlockResumed (w32 s.interlockInput)
      (w32 s.il.resumeUsed) (w32 (if s.frozen then 1 else 0)) := by
  have reports : (s.setIl .clear).Reports 1 := hr.congr rfl
  rw [State.checkResumed, if_pos ⟨hs, he⟩, State.report_posted reports]

/-- Levels are read past the fade table and the other blocks. -/
theorem State.levelOf_congr {F : List Fade} (hl : t.lv = { s.lv with fades := F }) (hm : t.mx = s.mx) (x : Target) :
    t.levelOf x = s.levelOf x := by
  cases x <;> simp only [State.levelOf, State.contrib, State.bus, hl, hm]

/-- `s` in RESUMING, before any offset is asked to return (07, R156). -/
def State.resuming (s : State) : State :=
  { s with il := { s.il with st := .resuming, resumeSet := [], resumeUsed := s.il.resumeTime } }

/-- `s` in CLEAR after a resume, with what the resume leaves of levels, cue engine and voices (07, R156). -/
def State.cleared (s : State) (L : Lv) (C : Ce) (V : Vu) : State :=
  { s with
    lv := L, ce := C, vu := V
    il := { s.il with st := .clear, resumeSet := [], resumeUsed := s.il.resumeTime } }

/-- What a resume over no time leaves, but for its report: every offset at 0, and CLEAR (07, R156). -/
structure Resumed (s t : State) : Prop where
  frame : ∃ L C V, t = s.cleared L C V
  hold : t.ce.hold = s.ce.hold
  zero : ∀ x ∈ interlockTargets, t.levelOf x = 0
  others : ∀ x : Target, x.wf = true → x ∉ interlockTargets → t.levelOf x = s.levelOf x

/-- With no offset in the resume set, and a time of 0, RESUMING ends at once (07, R156). -/
theorem State.resuming_clears {L : Lv} {C : Ce} {V : Vu} (h0 : s.il.resumeTime = 0) (hr : s.Reports 1)
    (hc : s.interlockInput = 0) (hold : C.hold = s.ce.hold) : (s.resuming.withShow L C V).checkResumed =
      (s.cleared L C V).posted clsSystem repInterlockResumed (w32 0) (w32 0) (w32 (if s.ce.hold then 1 else 0)) := by
  have frozen : (s.resuming.withShow L C V).frozen = s.ce.hold := by
    show (C.hold || false || false) = s.ce.hold
    rw [Bool.or_false, Bool.or_false, hold]
  have input : (s.resuming.withShow L C V).interlockInput = 0 := hc
  have used : (s.resuming.withShow L C V).il.resumeUsed = 0 := h0
  have clears := State.checkResumed_clears (s := s.resuming.withShow L C V) rfl rfl (hr.congr rfl)
  rw [frozen, input, used] at clears
  exact clears

theorem State.levelOf_cleared {L : Lv} {F : List Fade} {C : Ce} {V : Vu} (x : Target) :
    (s.cleared { L with fades := F } C V).levelOf x = (s.resuming.withShow L s.ce s.vu).levelOf x :=
  State.levelOf_congr (F := F) rfl rfl x

/-- The resume from LATCHED over a time of 0, where no offset fades, nothing was held back, and no input is routed
to INTERLOCK (07, R156). -/
theorem State.beginResume_atOnce (hs : s.il.st = .latched) (h0 : s.il.resumeTime = 0) (hr : s.Reports 1)
    (hn : ∀ f ∈ s.lv.fades, f.target ∉ interlockTargets) (hf : s.ce.follow ≠ .expired)
    (hw : s.ce.fire ≠ .waiting) (hc : s.interlockInput = 0) : ∃ t, Resumed s t ∧ s.beginResume =
      t.posted clsSystem repInterlockResumed (w32 0) (w32 0) (w32 (if s.ce.hold then 1 else 0)) := by
  have was : s.frozen = true := by simp [State.frozen, hs]
  have begins : s.beginResume =
      ((interlockTargets.foldl State.resumeTarget s.resuming).afterFreeze true).repause.checkResumed := by
    rw [← was]; rfl
  have zeroed := State.foldl_resumeTarget interlockTargets s.resuming (fun _ h => h) h0 fun x hx =>
    State.fadeOn_none_iff.2 fun f hm e => hn f hm (e ▸ hx)
  generalize interlockTargets.foldl State.resumeTarget s.resuming = v at begins zeroed
  obtain ⟨L, rfl⟩ : ∃ L, v = s.resuming.withShow L s.ce s.vu := ⟨_, zeroed.frame⟩
  obtain ⟨F, C, V, letsGo, hold⟩ := State.afterFreeze_letsGo (s := s.resuming.withShow L s.ce s.vu) rfl hf hw
  rw [letsGo] at begins
  refine ⟨_, ⟨⟨{ L with fades := F }, C, _, rfl⟩, hold, fun x hx => ?_, fun x hx hne => ?_⟩,
    begins.trans (State.resuming_clears (s := s) h0 hr hc hold)⟩
  · exact (State.levelOf_cleared x).trans (zeroed.zero x hx)
  · calc _ = (s.resuming.withShow L s.ce s.vu).levelOf x := State.levelOf_cleared x
      _ = s.resuming.levelOf x := zeroed.others x hx hne
      _ = s.levelOf x := State.levelOf_congr (F := s.lv.fades) rfl rfl x

/-! ### The command -/

/-- A report and the finish of a record change no level. -/
theorem State.levelOf_done {cls kind : Nat} {a b c : Word} (x : Target) :
    ((s.posted cls kind a b c).outcome r .ok).levelOf x = s.levelOf x :=
  State.levelOf_congr (F := s.lv.fades) rfl rfl x

/-- `s` with the resume time written (07, R155). -/
def State.withResumeTime (s : State) (ms : Nat) : State := { s with il := { s.il with resumeTime := ms } }

theorem readResume_inside {ms : Nat} (h : ms ≤ 60000) : readResume ms = (ms, false) := if_neg (Nat.not_lt.2 h)

theorem readResume_above {ms : Nat} (h : 60000 < ms) : readResume ms = (60000, true) := if_pos h

/-- In CLEAR and RESUMING the time is stored, and nothing else is done (07, R155). -/
theorem State.applyResume_stores {o : Option Nat} {ms : Nat} {k : Bool} (hs : s.il.st = .clear ∨ s.il.st = .resuming)
    (ho : readOr o s.il.resumeTime readResume = (ms, k)) : s.applyResume o = .ok (s.withResumeTime ms, k) := by
  rcases hs with hs | hs <;> simp only [State.applyResume, ho, State.withResumeTime, hs]

theorem State.applyResume_active {o : Option Nat} {ms : Nat} {k : Bool} (hs : s.il.st = .active)
    (ho : readOr o s.il.resumeTime readResume = (ms, k)) :
    s.applyResume o = .error { res := .state, why := .active, clamped := k } := by
  simp only [State.applyResume, ho, hs]

theorem State.applyResume_latched {o : Option Nat} {ms : Nat} {k : Bool} (hs : s.il.st = .latched)
    (ho : readOr o s.il.resumeTime readResume = (ms, k)) :
    s.applyResume o = .ok ((s.withResumeTime ms).beginResume, k) := by
  simp only [State.applyResume, ho, State.withResumeTime, hs]

theorem State.Ready.resume_stores (h : s.Ready r) {o : Option Nat} {ms : Nat} {k : Bool}
    (hs : s.il.st = .clear ∨ s.il.st = .resuming) (ho : readOr o s.il.resumeTime readResume = (ms, k)) :
    exec (.resume r o) s = .next ((s.withResumeTime ms).outcome r .ok .none k).granted :=
  h.exec_finish rfl (congrArg (s.answer r) (State.applyResume_stores hs ho)) (.refl _) h.quiet

end

/-- Settles O50: the state decides between the stored time, the refusal, and the resume at once. -/
theorem resumeActsByState : Obligations.ResumeActsByState := by
  intro s r h
  refine ⟨fun ms hm hs => ?_, fun hs => ?_, fun ms hm hs => ?_, fun ms hm hs => ?_, fun hs hr hn hf hw hc => ?_⟩
  · exact h.resume_stores hs (readResume_inside hm)
  · exact h.resume_stores (o := none) (.inl hs) rfl
  · exact h.resume_stores (.inl hs) (readResume_above hm)
  · have refused := State.applyResume_active (o := some ms) hs (readResume_inside hm)
    exact h.exec_refused rfl (congrArg (s.answer r) refused)
  · have noInput : s.interlockInput = 0 := by simp [State.interlockInput, hc]
    obtain ⟨_, ⟨⟨L, C, V, rfl⟩, hold, zero, others⟩, resumes⟩ :=
      State.beginResume_atOnce (s := s.withResumeTime 0) hs rfl (hr.congr rfl) hn hf hw noInput
    have answered := State.applyResume_latched (o := some 0) hs rfl
    rw [resumes] at answered
    exact ⟨_, h.exec_finish rfl (congrArg (s.answer r) answered) ⟨rfl, rfl, rfl, rfl⟩ h.quiet, rfl, rfl,
      fun x hx => (State.levelOf_done x).trans (zero x hx),
      fun x hx hne => (State.levelOf_done x).trans (others x hx hne), rfl, hold, rfl, rfl, rfl, rfl, rfl⟩

end Sys2Proof.Machine
end

section
/-! PROOFS. SET_INPUT, SET_PATTERN and SET_OUTPUT (08, R164–R169). -/

namespace Sys2Proof.Machine

section
variable {s t : State} {r : Link} {i : Instr}

/-! ### Commands that answer at once -/

/-- A chain command that is carried out with the state `t`, which differs from `s` outside the memory link. -/
theorem State.Ready.exec_answered (h : s.Ready r) (hi : recordLink i = some r) {e : Except Fail (State × Bool)}
    {k : Bool} (hf : State.runCommand i s = s.answer r e) (he : e = .ok (t, k)) (hm : t.ml = s.ml)
    (hq : t.notices = s.notices) : exec i s = .next (t.outcome r .ok .none k).granted := by
  subst he
  exact h.exec_finish hi hf (hm ▸ .refl _) (hq.trans h.quiet)

/-- A chain command refused for a value out of range. -/
theorem State.Ready.exec_outOfRange (h : s.Ready r) (hi : recordLink i = some r) {e : Except Fail (State × Bool)}
    (hf : State.runCommand i s = s.answer r e) (he : e = .error { res := .range }) :
    exec i s = .next (s.outcome r .range).granted := by
  subst he
  exact h.exec_refused hi hf

end

section
variable {s : State}

/-! ### SET_INPUT -/

theorem readDebounce_inside {t : Nat} (h1 : 1 ≤ t) (h2 : t ≤ 255) : readDebounce t = (t, false) := by
  rw [readDebounce, if_neg (by omega), if_neg (by omega)]

/-- SET_INPUT with an input in range and enables that are YES, NO or LEAVE (08, R164). -/
theorem State.applySetInput_written {c : Nat} {t a b : Option Nat} (h1 : 1 ≤ c) (h2 : c ≤ 24)
    (ha : twoValued a = true) (hb : twoValued b = true) : s.applySetInput c t a b =
      .ok (s.setInput c { s.input c with
        time := (readOr t (s.input c).time readDebounce).1
        rise := enableOr a (s.input c).rise
        fall := enableOr b (s.input c).fall }, (readOr t (s.input c).time readDebounce).2) := by
  simp [State.applySetInput, h1, h2, ha, hb]

theorem State.applySetInput_range {c : Nat} {t a b : Option Nat}
    (h : c = 0 ∨ 24 < c ∨ (∃ x, a = some x ∧ 1 < x) ∨ ∃ x, b = some x ∧ 1 < x) :
    s.applySetInput c t a b = .error { res := .range } := by
  refine if_pos ?_
  rcases h with h | h | h | h
  · exact .inl (by omega)
  · exact .inl (by omega)
  · exact .inr (.inl (by rw [twoValued_false h]; rfl))
  · exact .inr (.inr (by rw [twoValued_false h]; rfl))

/-! ### SET_PATTERN -/

theorem patternModeOf_none {m : Nat} (h : 2 < m) : patternModeOf m = none := by
  obtain ⟨k, rfl⟩ : ∃ k, m = k + 3 := ⟨m - 3, by omega⟩
  rfl

theorem patternActionOf_trig {line : Nat} (h1 : 1 ≤ line) (h2 : line ≤ 8) :
    patternActionOf 2 line = some (.trig line) := if_pos ⟨h1, h2⟩

theorem patternActionOf_none {a line : Nat} (h : 2 < a ∨ a = 2 ∧ (line = 0 ∨ 8 < line)) :
    patternActionOf a line = none := by
  rcases h with h | ⟨rfl, h⟩
  · obtain ⟨k, rfl⟩ : ∃ k, a = k + 3 := ⟨a - 3, by omega⟩
    rfl
  · exact if_neg (by omega)

/-- SET_PATTERN writes the watcher and brings `equal` up to date without firing (08, R166). -/
theorem State.applySetPattern_written {mode action line : Nat} {mask compare : BitVec 16} {m : PatternMode}
    {a : PatternAction} (hm : patternModeOf mode = some m) (ha : patternActionOf action line = some a) :
    s.applySetPattern mode mask compare action line = .ok ({ s with cu := { s.cu with
      mode := m, mask := mask, compare := compare, action := a,
      equal := decide (s.pattern &&& mask = compare &&& mask) } }, false) := by
  simp only [State.applySetPattern, hm, ha]
  rfl

theorem State.applySetPattern_range {mode action line : Nat} {mask compare : BitVec 16}
    (h : patternModeOf mode = none ∨ patternActionOf action line = none) :
    s.applySetPattern mode mask compare action line = .error { res := .range } := by
  unfold State.applySetPattern
  split
  · rename_i hm ha
    rcases h with h | h
    · rw [h] at hm; cases hm
    · rw [h] at ha; cases ha
  · rfl

/-! ### SET_OUTPUT -/

theorem sourceOf_onAir {g : Nat} (h1 : 1 ≤ g) (h2 : g ≤ 8) : sourceOf 6 g = some (.onAir g) := if_pos ⟨h1, h2⟩

theorem sourceOf_none {c g : Nat} (h : 7 < c ∨ c = 6 ∧ (g = 0 ∨ 8 < g)) : sourceOf c g = none := by
  rcases h with h | ⟨rfl, h⟩
  · obtain ⟨k, rfl⟩ : ∃ k, c = k + 8 := ⟨c - 8, by omega⟩
    rfl
  · exact if_neg (by omega)

theorem State.applySetOutput_written {k c g : Nat} {o : OutSource} (h1 : 1 ≤ k) (h2 : k ≤ 16)
    (ho : sourceOf c g = some o) :
    s.applySetOutput k c g = .ok (s.setOutput k { s.output k with source := o }, false) := by
  simp [State.applySetOutput, ho, h1, h2]

theorem State.applySetOutput_range {k c g : Nat} (h : k = 0 ∨ 16 < k ∨ sourceOf c g = none) :
    s.applySetOutput k c g = .error { res := .range } := by
  unfold State.applySetOutput
  split
  · rfl
  · rename_i ho
    refine if_pos ?_
    rcases h with h | h | h
    · omega
    · omega
    · rw [h] at ho; cases ho

/-- While RUNNING the contact of output `k` is what its source gives (08, R167). -/
theorem State.contactClosed_written {r : Link} {k : Nat} {x : Output} (hp : s.ml.part = .running) (h1 : 1 ≤ k)
    (h2 : k ≤ 16) :
    ((s.setOutput k x).outcome r .ok).contactClosed k = ((s.setOutput k x).outcome r .ok).sourceOn x := by
  have running : ((s.setOutput k x).outcome r .ok).running = true := beq_iff_eq.2 hp
  have written : ((s.setOutput k x).outcome r .ok).output k = x := s.output_setOutput x h1 h2
  rw [State.contactClosed, running, written, Bool.true_and]

end

/-- Settles O52: the values decide between a refusal and the settings written. -/
theorem contactSettingsAreWritten : Obligations.ContactSettingsAreWritten := by
  refine ⟨fun s r c h => ⟨fun t h1 h2 t1 t2 => ?_, fun h1 h2 => ?_, fun t a b bad => ?_,
    fun mask compare line l1 l2 => ?_, fun mode mask compare action line bad => ?_⟩,
    fun s r k g h => ⟨fun h1 h2 => ⟨?_, ?_, ?_, ?_, fun g1 g2 => ?_⟩, fun c bad => ?_⟩⟩
  · have written := s.applySetInput_written (t := some t) (a := some 0) (b := none) h1 h2 rfl rfl
    simp only [readOr, readDebounce_inside t1 t2] at written
    exact h.exec_answered rfl rfl written rfl rfl
  · exact h.exec_answered rfl rfl
      (s.applySetInput_written (t := some 0) (a := none) (b := some 1) h1 h2 rfl rfl) rfl rfl
  · exact h.exec_outOfRange rfl rfl (State.applySetInput_range bad)
  · exact h.exec_answered rfl rfl (State.applySetPattern_written rfl (patternActionOf_trig l1 l2)) rfl rfl
  · exact h.exec_outOfRange rfl rfl
      (State.applySetPattern_range (bad.imp patternModeOf_none patternActionOf_none))
  · exact h.exec_answered rfl rfl (State.applySetOutput_written h1 h2 rfl) rfl rfl
  · exact State.contactClosed_written h.running h1 h2
  · exact h.exec_answered rfl rfl (State.applySetOutput_written h1 h2 rfl) rfl rfl
  · exact State.contactClosed_written h.running h1 h2
  · exact h.exec_answered rfl rfl (State.applySetOutput_written h1 h2 (sourceOf_onAir g1 g2)) rfl rfl
  · exact h.exec_outOfRange rfl rfl (State.applySetOutput_range (bad.imp_right (.imp_right sourceOf_none)))

end Sys2Proof.Machine
end

section
/-! PROOFS. The window table read of a start: the entry to RUNNING, and the start fault (08, R159; 09, R170, R171; 10,
R182). -/

namespace Sys2Proof.Machine

/-! ### The entry to RUNNING -/

/-- The clock unit at sample 0 (09, R170, R171). -/
def Ck.started (k : Ck) (c : Setup) : Ck :=
  if c.external then { k with now := 0, rate := c.rate, st := .extAcquiring, good := 0, acqFresh := true }
  else { k with now := 0, rate := c.rate }

/-- The memory link at sample 0: a look is under way, a status page is due (10, R182; 11, R190, R196). -/
def Ml.started (m : Ml) (c : Setup) : Ml :=
  { m with
    part := .running, phase := .idle, position := some c.chainStart, reader := .looking, lookOwed := false,
    pollInterval := c.poll, pollStart := 0, freeHead := some c.freeHead, nextLink := .unknown,
    anchor := some c.anchor, nextStatus := 0 }

section
variable (s : State) (c : Setup) (p : Pins)

/-- The first sample writes the inputs alone (08, R159). -/
theorem State.firstInputs_inputs (raw : BitVec 24) :
    ∃ V, s.firstInputs raw = { s with cu := { s.cu with inputs := V } } := by
  suffices h : ∀ (l : List Nat) (t : State), ∃ V, l.foldl (fun s c =>
      s.setInput c { s.input c with closed := inSet raw c, count := 0, due := false }) t =
        { t with cu := { t.cu with inputs := V } } from h _ s
  intro l
  induction l with
  | nil => exact fun t => ⟨t.cu.inputs, rfl⟩
  | cons e es ih =>
    intro t
    obtain ⟨V, hV⟩ := ih (t.setInput e { t.input e with closed := inSet raw e, count := 0, due := false })
    exact ⟨V, hV⟩

theorem State.firstInputs_input (raw : BitVec 24) {i : Nat} (h1 : 1 ≤ i) (h2 : i ≤ 24) :
    (s.firstInputs raw).input i = { s.input i with closed := inSet raw i, count := 0, due := false } := by
  unfold State.firstInputs
  rw [State.input_foldl (fun t e => { t.input e with closed := inSet raw e, count := 0, due := false })
    (fun t d e x hd he hne => by rw [t.input_setInput_other x hd he hne])
    _ (oneTo_nodup 24) (fun e he => mem_oneTo.1 he) s i h1, if_pos (mem_oneTo.2 ⟨h1, h2⟩)]

/-- The inputs as they stand at the first sample. -/
theorem State.firstInputs_eq (raw : BitVec 24) : ∃ V, s.firstInputs raw = { s with cu := { s.cu with inputs := V } } ∧
    ∀ i, 1 ≤ i → i ≤ 24 →
      tget V (i - 1) Input.reset = { s.input i with closed := inSet raw i, count := 0, due := false } := by
  obtain ⟨V, first⟩ := s.firstInputs_inputs raw
  refine ⟨V, first, fun i h1 h2 => ?_⟩
  rw [← s.firstInputs_input raw h1 h2, first]
  rfl

/-- `s` at sample 0 of RUNNING, with the inputs `V` (10, R182). -/
def State.started (s : State) (c : Setup) (p : Pins) (V : Vector Input 24) : State :=
  { s with
    ml := s.ml.started c, ck := s.ck.started c, cu := { s.cu with inputs := V }
    mx := { s.mx with nextPeriod := 0, frames := [s.frameOf p []] } }

/-- RUNNING is entered with the inputs as the contacts stand (08, R159; 10, R182). -/
theorem State.enterRunning_eq : ∃ V, s.enterRunning c p = s.started c p V ∧ ∀ i, 1 ≤ i → i ≤ 24 →
    tget V (i - 1) Input.reset = { s.input i with closed := inSet p.contacts i, count := 0, due := false } := by
  obtain ⟨V, first, inputs⟩ :=
    ({ s with ml := s.ml.started c, ck := s.ck.started c } : State).firstInputs_eq p.contacts
  refine ⟨V, ?_, inputs⟩
  have begun : (if c.external then ({ s with
        ml := s.ml.started c, ck := { s.ck with now := 0, rate := c.rate } } : State).beginAcquire
      else { s with ml := s.ml.started c, ck := { s.ck with now := 0, rate := c.rate } }) =
        { s with ml := s.ml.started c, ck := s.ck.started c } := by
    unfold Ck.started
    cases c.external <;> rfl
  have entered : s.enterRunning c p =
      let t := ({ s with ml := s.ml.started c, ck := s.ck.started c } : State).firstInputs p.contacts
      { t with mx := { t.mx with nextPeriod := 0, frames := [t.frameOf p []] } } := by
    rw [← begun]
    rfl
  rw [entered, first]
  rfl

theorem Ck.started_st (k : Ck) : (k.started c).st = if c.external then .extAcquiring else k.st := by
  unfold Ck.started
  split <;> rfl

theorem Ck.started_now (k : Ck) : (k.started c).now = 0 := by
  unfold Ck.started
  split <;> rfl

theorem Ck.started_rate (k : Ck) : (k.started c).rate = c.rate := by
  unfold Ck.started
  split <;> rfl

/-! ### The read -/

theorem exec_tableReturn (d : ReadData) : exec (.windowTableReadComplete d p) s = .next (s.tableReturn d p).granted :=
  rfl

variable {s c p} {addr len : Nat} {link : Link} {b : List Byte}

/-- The one read outstanding is the start's table: its links are judged against the windows it gives (10, R182). -/
theorem State.tableReturn_judged (hs : s.ml.slots = [⟨.startTable, addr, len, link⟩]) (ha : s.ml.abandoned = false)
    (hc : s.ml.setup = some c) : s.tableReturn (.data b) p =
      if ({ s.ml with windows := windowSet b c.count } : Ml).linksOk c then
        ({ s with ml := { s.ml with slots := [], windows := windowSet b c.count } } : State).enterRunning c p
      else ({ s with ml := { s.ml with slots := [] } } : State).startFault := by
  have out : s.ml.isOut .startTable = true := by simp [Ml.isOut, hs]
  have freed : s.ml.freeSlot .startTable = { s.ml with slots := [] } := by simp [Ml.freeSlot, hs]
  simp only [State.tableReturn, out, ha, freed, hc, Bool.not_true, Bool.false_eq_true, if_false]
  rfl

theorem State.startFault_granted : s.startFault.granted = s.startFault :=
  State.granted_of_none (State.grantDue_still (.inl rfl))

end

/-- Settles O9: the four links decide between the entry to RUNNING and the start fault. -/
theorem windowTableEntersRunning : Obligations.WindowTableEntersRunning := by
  intro s addr len link b p c hs ha hc
  have judged := State.tableReturn_judged (b := b) (p := p) hs ha hc
  refine ⟨fun ok => ?_, fun bad => ?_⟩
  · obtain ⟨V, entered, inputs⟩ := State.enterRunning_eq
      { s with ml := { s.ml with slots := [], windows := windowSet b c.count } } c p
    rw [if_pos ok, entered] at judged
    exact ⟨_, congrArg (fun t : State => Host.Outcome.next t.granted) judged, rfl, Ck.started_now c s.ck,
      Ck.started_rate c s.ck, Ck.started_st c s.ck,
      fun i h1 h2 => ⟨congrArg Input.closed (inputs i h1 h2), congrArg Input.count (inputs i h1 h2)⟩,
      rfl, rfl, rfl, rfl, rfl, rfl, rfl, rfl, rfl⟩
  · rw [if_neg (by simp [bad])] at judged
    rw [exec_tableReturn, judged, State.startFault_granted]
    rfl

end Sys2Proof.Machine
end

section
/-! PROOFS. INPUT_CHANGE: the functions routed to an input, and what the row comes to (08, R159–R162). -/

namespace Sys2Proof.Machine

/-! ### Functions and their codes -/

theorem nodup_eraseDups (l : List Nat) : l.eraseDups.Nodup := by
  match l with
  | [] => exact List.nodup_nil
  | a :: l =>
    rw [List.eraseDups_cons, List.nodup_cons]
    exact ⟨by simp [List.mem_eraseDups], nodup_eraseDups (l.filter fun b => !b == a)⟩
termination_by l.length
decreasing_by exact Nat.lt_succ_of_le (List.length_filter_le _ _)

/-- PAGE and TRIG have the codes from 5 on (08, R161). -/
theorem funcOf_numbered {code : Nat} (h : 5 ≤ code) : funcOf code =
    if code ≤ 12 then some (.page (code - 4)) else if code ≤ 20 then some (.trig (code - 12)) else none := by
  obtain ⟨k, rfl⟩ : ∃ k, code = k + 5 := ⟨code - 5, by omega⟩
  rfl

theorem funcOf_page {n : Nat} (h1 : 1 ≤ n) (h2 : n ≤ 8) : funcOf (4 + n) = some (.page n) := by
  rw [funcOf_numbered (by omega), if_pos (by omega), Nat.add_sub_cancel_left]

theorem funcOf_trig {n : Nat} (h1 : 1 ≤ n) (h2 : n ≤ 8) : funcOf (12 + n) = some (.trig n) := by
  rw [funcOf_numbered (by omega), if_neg (by omega), if_pos (by omega), Nat.add_sub_cancel_left]

/-- A function has one code (08, R161). -/
theorem funcCode_of {code : Nat} {fn : Func} (h : funcOf code = some fn) : funcCode fn = code := by
  by_cases numbered : 5 ≤ code
  · rw [funcOf_numbered numbered] at h
    split_ifs at h with page trig
    · cases h
      exact Nat.add_sub_cancel' (by omega)
    · cases h
      exact Nat.add_sub_cancel' (by omega)
  · interval_cases code <;> cases h <;> rfl

section
variable {s t : State} {c w code : Nat} {first : List Nat} {fn : Func} {pol : Polarity} {a b : Bool}

/-! ### The functions routed to an input -/

/-- The one route of the table leads to the input: its function is taken once, in whatever order is asked for. -/
theorem State.routed_only (hr : s.cu.routes = [⟨fn, c, pol, a⟩]) (hf : funcOf code = some fn) :
    s.routed c first = [fn] := by
  have once : ((first ++ List.range 21).eraseDups.filterMap funcOf).Nodup :=
    (nodup_eraseDups _).filterMap fun i j f hi hj => (funcCode_of hi).symm.trans (funcCode_of hj)
  have range : code < 21 := by
    by_contra above
    rw [funcOf_none (by omega)] at hf
    cases hf
  have mem : fn ∈ (first ++ List.range 21).eraseDups.filterMap funcOf :=
    List.mem_filterMap.2 ⟨code, List.mem_eraseDups.2 (List.mem_append_right _ (List.mem_range.2 range)), hf⟩
  have only : s.routed c first = ((first ++ List.range 21).eraseDups.filterMap funcOf).filter (· == fn) := by
    refine List.filter_congr fun f _ => ?_
    rw [hr]
    show ((fn == f && c == c) || false) = (f == fn)
    rw [beq_self_eq_true, Bool.and_true, Bool.or_false, BEq.comm]
  rw [only, List.filter_beq, List.count_eq_one_of_mem once mem]
  rfl

theorem State.routed_none (hr : ∀ r ∈ s.cu.routes, r.input ≠ c) : s.routed c first = [] := by
  refine List.filter_eq_nil_iff.2 fun f _ => ?_
  simp only [List.any_eq_true, Bool.and_eq_true, beq_iff_eq, not_exists, not_and]
  exact fun r hm _ => hr r hm

/-! ### The change of an input -/

/-- `s` with the state of input `c` flipped, and its edge flag set where the edge is enabled (08, R159, R160). -/
def State.flipped (s : State) (c : Nat) : State :=
  s.setInput c { s.input c with
    closed := !(s.input c).closed, count := 0, due := false,
    edge := (s.input c).edge || (if (s.input c).closed then (s.input c).fall else (s.input c).rise) }

theorem State.inputChange_eq : s.inputChange c w first =
    (((s.flipped c).routed c first).drop w).foldl State.followInput
      (((((s.flipped c).routed c first).take w).foldl State.followInput (s.flipped c)).watch c) := by
  have flip : s.flipped c = s.setInput c { s.input c with
      closed := !(s.input c).closed, count := 0, due := false,
      edge := (s.input c).edge || (if !(s.input c).closed then (s.input c).rise else (s.input c).fall) } := by
    unfold State.flipped
    cases (s.input c).closed <;> rfl
  rw [flip]
  rfl

/-- An input to which nothing is routed: the watcher alone sees its change. -/
theorem State.inputChange_unrouted (hr : ∀ r ∈ s.cu.routes, r.input ≠ c) :
    s.inputChange c w first = (s.flipped c).watch c := by
  have none : (s.flipped c).routed c first = [] := State.routed_none hr
  rw [State.inputChange_eq, none, List.take_nil, List.drop_nil]
  rfl

theorem State.watch_off (h : s.cu.mode = .off) (c : Nat) : s.watch c = s := by
  simp [State.watch, h]

/-- With the watcher off, the one function routed to the input follows it, wherever the watcher stands in the order. -/
theorem State.inputChange_routed (hr : s.cu.routes = [⟨fn, c, pol, a⟩]) (hf : funcOf code = some fn)
    (ht : (s.flipped c).followInput fn = t) (hs : s.cu.mode = .off) (hm : t.cu.mode = .off) :
    s.inputChange c w first = t := by
  have routed : (s.flipped c).routed c first = [fn] := State.routed_only (s := s.flipped c) hr hf
  have before : (s.flipped c).watch c = s.flipped c := State.watch_off (s := s.flipped c) hs c
  rw [State.inputChange_eq, routed]
  cases w with
  | zero =>
    show ((s.flipped c).watch c).followInput fn = t
    rw [before, ht]
  | succ w =>
    rw [List.take_succ_cons, List.take_nil, List.drop_succ_cons, List.drop_nil]
    show ((s.flipped c).followInput fn).watch c = t
    rw [ht, State.watch_off hm]

/-! ### The row -/

/-- An input whose count has not run its time does not change (08, R159). -/
theorem exec_inputChange_early (h : (s.input c).due = false) : exec (.inputChange c w first) s = .next s.granted := by
  show execInputChange c w first s = _
  rw [execInputChange, h, Bool.and_false]
  rfl

theorem exec_inputChange_due (hp : s.ml.part = .running) (hd : (s.input c).due = true)
    (ht : s.inputChange c w first = t) (hn : t.notices = []) : exec (.inputChange c w first) s = .next t.granted := by
  show execInputChange c w first s = _
  rw [execInputChange, hd, Bool.and_true]
  exact State.runningRow (f := fun s => s.inputChange c w first) hp ht hn

/-! ### One function routed to an input -/

/-- `s` with input `c` flipped and `fn`, which is active while that contact is closed, in the state `b` (08, R161). -/
def State.following (s : State) (c : Nat) (fn : Func) (b : Bool) : State :=
  { s.flipped c with cu := { (s.flipped c).cu with routes := [⟨fn, c, .closed, b⟩] } }

/-- Input `c`, to which `fn` alone is routed and which the watcher does not see, is about to bring `fn` to the
state `b`. -/
structure State.Brings (s : State) (c : Nat) (fn : Func) (b : Bool) : Prop where
  first : 1 ≤ c
  last : c ≤ 24
  running : s.ml.part = .running
  quiet : s.notices = []
  due : (s.input c).due = true
  off : s.cu.mode = .off
  was : (s.input c).closed = !b
  routed : s.cu.routes = [⟨fn, c, .closed, !b⟩]
  coded : ∃ code, funcOf code = some fn

/-- The function takes the state of its input, and its change is delivered (08, R161, R162). -/
theorem State.Brings.followInput (h : s.Brings c fn b) :
    (s.flipped c).followInput fn = (s.following c fn b).deliver fn c b := by
  have routes : (s.flipped c).cu.routes = [⟨fn, c, .closed, !b⟩] := h.routed
  have found : (s.flipped c).cu.routes.find? (·.fn == fn) = some ⟨fn, c, .closed, !b⟩ := by simp [routes]
  have closed : ((s.flipped c).input c).closed = b := by
    rw [State.flipped, s.input_setInput _ h.first h.last, h.was, Bool.not_not]
  have active : setActive (s.flipped c).cu.routes fn b = [⟨fn, c, .closed, b⟩] := by simp [setActive, routes]
  simp only [State.followInput, found, activeAt, closed, active]
  rw [if_neg (by cases b <;> decide)]
  rfl

/-- The row comes to what the delivery comes to. -/
theorem State.Brings.row (h : s.Brings c fn b) (ht : (s.following c fn b).deliver fn c b = t)
    (hm : t.cu.mode = .off) (hn : t.notices = []) : exec (.inputChange c w first) s = .next t.granted := by
  obtain ⟨_, coded⟩ := h.coded
  exact exec_inputChange_due h.running h.due
    (State.inputChange_routed h.routed coded (h.followInput.trans ht) h.off hm) hn

end

end Sys2Proof.Machine
end

section
/-! PROOFS. INPUT_CHANGE: GO, TRIG, MARK, TALK and HOLD are delivered (04, R87, R88, R95; 05, R110; 08, R162). -/

namespace Sys2Proof.Machine

section
variable {s t : State} {c w n : Nat} {first : List Nat} {fn : Func} {k : Cue} {b : Bool}

/-! ### The armed cue -/

/-- What stands armed is seen in the cue engine, the interlock and the levels alone. -/
theorem State.LastCue.congr (h : s.LastCue k) (hc : t.ce = s.ce) (hi : t.il = s.il) (hl : t.lv = s.lv) :
    t.LastCue k where
  standby := hc ▸ h.standby
  armed := hc ▸ h.armed
  free := by rw [State.frozen, hc, hi]; exact h.free
  room := hc ▸ h.room
  fresh := hc ▸ h.fresh
  noAction := hc ▸ h.noAction
  noFade := hc ▸ hl ▸ h.noFade
  empty := h.empty
  noPrimes := h.noPrimes
  last := h.last

theorem State.LastCue.triggerArmed (h : s.LastCue k) (hr : s.Reports 2) : s.triggerArmed = s.playedLast k := by
  simp only [State.triggerArmed, h.armed]
  rw [if_pos ⟨h.standby, by rw [h.free]; rfl⟩, h.trigger hr]

/-- GO in STANDBY, from any source, triggers the armed cue (04, R86). -/
theorem State.LastCue.goFrom (h : s.LastCue k) (hr : s.Reports 2) (src : GoSource) :
    (s.goFrom src).1 = s.playedLast k := by
  simp only [State.goFrom, h.free, h.standby, h.triggerArmed hr, Bool.false_eq_true, if_false]

/-- An event on line `n` triggers the armed cue where that cue waits for the line (04, R88). -/
theorem State.LastCue.triggerLine (h : s.LastCue k) (hr : s.Reports 2) (n : Nat) :
    s.triggerLine n = if k.trigger = .input n then s.playedLast k else s := by
  simp only [State.triggerLine, h.armed, h.triggerArmed hr]

theorem State.Brings.go_triggers (h : s.Brings c .go true) (hk : s.LastCue k) (hr : s.Reports 2) :
    exec (.inputChange c w first) s = .next ((s.following c .go true).playedLast k).granted := by
  have cue : (s.following c .go true).LastCue k := hk.congr rfl rfl rfl
  exact h.row (cue.goFrom (hr.congr rfl) .contact) h.off h.quiet

/-- GO in ARMING is latched (04, R87). -/
theorem State.Brings.go_latches (h : s.Brings c .go true) (hz : s.frozen = false) (hs : s.ce.seq = .arming)
    (hl : s.ce.latched = none) : exec (.inputChange c w first) s =
      .next ({ s.following c .go true with ce := { s.ce with latched := some .contact } } : State).granted := by
  have latched := State.goFrom_latched (s := s.following c .go true) hz hs hl .contact
  exact h.row (congrArg Prod.fst latched) h.off h.quiet

theorem State.Brings.trig_triggers (h : s.Brings c (.trig n) true) (hk : s.LastCue k) (hr : s.Reports 2) :
    exec (.inputChange c w first) s = .next (if k.trigger = .input n then
      (s.following c (.trig n) true).playedLast k else s.following c (.trig n) true).granted := by
  have cue : (s.following c (.trig n) true).LastCue k := hk.congr rfl rfl rfl
  have line := cue.triggerLine (hr.congr rfl) n
  by_cases waits : k.trigger = .input n
  · rw [if_pos waits] at line ⊢
    exact h.row line h.off h.quiet
  · rw [if_neg waits] at line ⊢
    exact h.row line h.off h.quiet

/-! ### Edge functions -/

/-- Edge functions act on activation alone (08, R162). -/
theorem State.deliver_edgeOff (h : isEdge fn = true) : s.deliver fn c false = s :=
  match fn, h with
  | .go, _ => rfl
  | .trig _, _ => rfl
  | .mark, _ => rfl

theorem State.Brings.edge_ends (h : s.Brings c fn false) (he : isEdge fn = true) :
    exec (.inputChange c w first) s = .next (s.following c fn false).granted :=
  h.row (State.deliver_edgeOff he) h.off h.quiet

/-- MARK posts the set of closed inputs (08, R162). -/
theorem State.Brings.mark_posts (h : s.Brings c .mark true) (hr : s.Reports 1) :
    exec (.inputChange c w first) s = .next ((s.following c .mark true).posted clsSystem repMark 0 (w32 c)
      ((s.flipped c).closedSet.setWidth 32)).granted := by
  have posted := State.report_posted (s := s.following c .mark true) (hr.congr rfl) clsSystem repMark 0 (w32 c)
    ((s.flipped c).closedSet.setWidth 32)
  exact h.row posted h.off h.quiet

/-! ### TALK -/

/-- Where no mix is in the talk set and none is talking, none follows talk (05, R111). -/
theorem State.followTalkAll_silent
    (h : ∀ m, 1 ≤ m → m ≤ 16 → (s.mix m).inSet = false ∧ (s.mix m).talking = false) : s.followTalkAll = s :=
  State.foldl_still fun m hm => by
    obtain ⟨h1, h2⟩ := mem_oneTo.1 hm
    obtain ⟨outside, silent⟩ := h m h1 h2
    exact State.followTalk_still (by rw [outside, silent, Bool.and_false])

/-- The foldback controller is handed the state of TALK (05, R110). -/
theorem State.Brings.talk_handed (h : s.Brings c .talk b)
    (hx : ∀ m, 1 ≤ m → m ≤ 16 → (s.mix m).inSet = false ∧ (s.mix m).talking = false) :
    exec (.inputChange c w first) s =
      .next ({ s.following c .talk b with fb := { s.fb with talkFn := b } } : State).granted := by
  have silent := State.followTalkAll_silent
    (s := { s.following c .talk b with fb := { s.fb with talkFn := b } }) hx
  have handed : (s.following c .talk b).deliver .talk c b =
      ({ s.following c .talk b with fb := { s.fb with talkFn := b } } : State).followTalkAll := by cases b <;> rfl
  exact h.row (handed.trans silent) h.off h.quiet

/-! ### HOLD -/

/-- What a change of the freeze condition by HOLD leaves, beside fades, voices and the times of the cue engine. -/
structure HeldTo (s t : State) (b : Bool) : Prop where
  hold : t.ce.hold = b
  frozen : t.frozen = b
  cu : t.cu = s.cu
  seq : t.ce.seq = s.ce.seq
  ml : t.ml = s.ml
  ck : t.ck = s.ck
  rc : t.rc = s.rc
  il : t.il = s.il
  notices : t.notices = s.notices

theorem State.setHold_begins (hz : s.frozen = false) (hl : s.ce.latched = none) : HeldTo s (s.setHold true) true := by
  obtain ⟨V, freezes⟩ := State.setHold_freezes hz
  rw [s.holding.discardLatch_none hl] at freezes
  rw [freezes]
  exact ⟨rfl, rfl, rfl, rfl, rfl, rfl, rfl, rfl, rfl⟩

theorem State.setHold_ends (hh : s.ce.hold = true) (hi : s.interlocked = false) (hf : s.ce.follow ≠ .expired)
    (hw : s.ce.fire ≠ .waiting) : HeldTo s (s.setHold false) false := by
  obtain ⟨V, thaws⟩ := State.setHold_thaws hh hi hf hw
  rw [thaws]
  exact ⟨rfl, hi, rfl, rfl, rfl, rfl, rfl, rfl, rfl⟩

/-- HOLD follows its input, and the freeze condition with it (04, R95). -/
theorem State.Brings.hold_follows (h : s.Brings c .hold b)
    (held : HeldTo (s.following c .hold b) ((s.following c .hold b).setHold b) b) :
    ∃ t : State, exec (.inputChange c w first) s = .next t.granted ∧ t.ce.hold = b ∧ t.frozen = b ∧
      t.cu = (s.following c .hold b).cu ∧ t.ce.seq = s.ce.seq ∧ t.ml = s.ml ∧ t.ck = s.ck ∧ t.rc = s.rc ∧
      t.il = s.il := by
  have handed : (s.following c .hold b).deliver .hold c b = (s.following c .hold b).setHold b := by cases b <;> rfl
  have off : ((s.following c .hold b).setHold b).cu.mode = .off := by rw [held.cu]; exact h.off
  exact ⟨_, h.row handed off (held.notices.trans h.quiet), held.hold, held.frozen, held.cu, held.seq, held.ml,
    held.ck, held.rc, held.il⟩

end

end Sys2Proof.Machine
end

section
/-! PROOFS. INPUT_CHANGE: INTERLOCK is delivered (07, R152–R154, R157). -/

namespace Sys2Proof.Machine

section
variable {s t : State} {c w : Nat} {first : List Nat} {x : Target}

/-! ### The 56 fades to OFF -/

theorem interlockTargets_nodup : interlockTargets.Nodup := by
  refine List.Nodup.append (List.nodup_range.map fun _ _ h => Target.busInterlock.inj h)
    ((oneTo_nodup 32).map fun _ _ h => Target.zoneInterlock.inj h) fun x hb hz => ?_
  obtain ⟨_, _, rfl⟩ := List.mem_map.1 hb
  obtain ⟨_, _, h⟩ := List.mem_map.1 hz
  cases h

/-- The fade of an offset to OFF over 250 ms (07, R152). -/
def State.offFade (s : State) (x : Target) : Fade :=
  ⟨x, .interlock, s.levelOf x, off, fadePeriods s.ck.rate 250, 0, .linear, false, false⟩

/-- An offset without a fade, where the fade table has a place, gets its fade at the end of the table (01, R16). -/
theorem State.fadeTo_off (hx : x ∈ interlockTargets) (hn : s.fadeOn x = none) (hr : s.lv.fades.length < 1024) :
    s.fadeTo x off 250 .linear .interlock = s.setFades (s.lv.fades ++ [s.offFade x]) := by
  rw [State.fadeTo_enters hn hr]
  rcases mem_interlockTargets.1 hx with ⟨_, _, rfl⟩ | ⟨_, _, _, rfl⟩ <;> rfl

/-- Offsets of which none fades all get their fades, in order. -/
theorem State.foldl_fadeTo_off (l : List Target) (s : State) (hl : ∀ x ∈ l, x ∈ interlockTargets) (hd : l.Nodup)
    (hn : ∀ x ∈ l, s.fadeOn x = none) (hr : s.lv.fades.length + l.length ≤ 1024) :
    l.foldl (fun s x => s.fadeTo x off 250 .linear .interlock) s =
      s.setFades (s.lv.fades ++ l.map s.offFade) := by
  induction l generalizing s with
  | nil => rw [List.map_nil, List.append_nil]; rfl
  | cons x l ih =>
    obtain ⟨new, apart⟩ := List.nodup_cons.1 hd
    have room : s.lv.fades.length + l.length + 1 ≤ 1024 := hr
    have entered := State.fadeTo_off (hl x (by simp)) (hn x (by simp)) (by omega)
    have unfading : ∀ y ∈ l, (s.setFades (s.lv.fades ++ [s.offFade x])).fadeOn y = none := fun y hy =>
      (find_snoc_other (f := s.offFade x) fun e : x = y => new (e ▸ hy)).trans (hn y (by simp [hy]))
    have place : (s.lv.fades ++ [s.offFade x]).length + l.length ≤ 1024 := by
      rw [List.length_append, List.length_singleton]
      omega
    have same : (s.setFades (s.lv.fades ++ [s.offFade x])).offFade = s.offFade := funext fun _ => rfl
    rw [List.foldl_cons, entered, ih _ (fun y hy => hl y (by simp [hy])) apart unfading place, same]
    show s.setFades ((s.lv.fades ++ [s.offFade x]) ++ l.map s.offFade) = _
    rw [List.append_assoc]
    rfl

/-- A list of fades, one for each target of `l`, has the fade of each. -/
theorem find_map_target {f : Target → Fade} (hf : ∀ x, (f x).target = x) {l : List Target} (hx : x ∈ l) :
    (l.map f).find? (·.target == x) = some (f x) := by
  have same : ((fun g : Fade => g.target == x) ∘ f) = (· == x) := funext fun y => by simp [hf]
  have found : l.find? (· == x) = some x := by
    have finds : (l.find? (· == x)).isSome = true := List.find?_isSome.2 ⟨x, hx, beq_self_eq_true x⟩
    obtain ⟨y, hy⟩ := Option.isSome_iff_exists.1 finds
    have itself : y = x := by simpa using List.find?_some hy
    rw [hy, itself]
  rw [List.find?_map, same, found]
  rfl

theorem State.fadeOn_off (hn : s.fadeOn x = none) (hx : x ∈ interlockTargets) :
    (s.lv.fades ++ interlockTargets.map s.offFade).find? (·.target == x) = some (s.offFade x) := by
  rw [List.find?_append, show s.lv.fades.find? (·.target == x) = none from hn,
    find_map_target (fun _ => rfl) hx]
  rfl

/-- The freeze condition leaves the fades of other owners than cues as they are (01, R21). -/
theorem State.fadeOn_markFrozen {f : Fade} (h : s.fadeOn x = some f) (ho : isCueOwner f.owner = false) (b : Bool) :
    (s.markFrozen b).fadeOn x = some f := by
  have same : ((fun g : Fade => g.target == x) ∘ fun f => if isCueOwner f.owner then { f with frozen := b } else f) =
      (·.target == x) := funext fun g => by
    show ((if isCueOwner g.owner then { g with frozen := b } else g).target == x) = _
    split <;> rfl
  have found : s.lv.fades.find? (·.target == x) = some f := h
  show (s.lv.fades.map _).find? _ = _
  rw [List.find?_map, same, found, Option.map_some, ho]
  rfl

/-! ### The freeze condition where the interlock holds it -/

/-- The interlock holds the freeze condition: HOLD has held it already, or it begins; the fades of others than cues go
on (04, R96). -/
theorem State.afterFreeze_locks (hi : s.interlocked = true) (hl : s.ce.latched = none) (was : Bool) :
    ∃ F C V, (s.afterFreeze was).repause = s.withShow { s.lv with fades := F } C V ∧
      ∀ x f, s.fadeOn x = some f → isCueOwner f.owner = false → F.find? (·.target == x) = some f := by
  have frozen : s.frozen = true := by
    have locked : (s.il.st == .active || s.il.st == .latched) = true := hi
    rw [State.frozen, Bool.or_assoc, locked, Bool.or_true]
  cases was with
  | true =>
    have stays : s.afterFreeze true = s := by simp only [State.afterFreeze, frozen]
    exact ⟨s.lv.fades, s.ce, s.repause.vu, by rw [stays]; rfl, fun _ _ h _ => h⟩
  | false =>
    have begins : s.afterFreeze false = s.freezeStart := by simp only [State.afterFreeze, frozen]
    obtain ⟨V, retimed⟩ := State.retimeVoices_vu
      ((s.markFrozen true).mapDue (When.freeze s.ck.now) (Since.freeze s.ck.now))
    have starts : s.freezeStart = ((((s.markFrozen true).mapDue (When.freeze s.ck.now)
        (Since.freeze s.ck.now)).retimeVoices).discardLatch .held).repause := rfl
    have latch : ({ (s.markFrozen true).mapDue (When.freeze s.ck.now) (Since.freeze s.ck.now) with
        vu := V } : State).ce.latched = none := hl
    rw [begins, starts, retimed, State.discardLatch_none _ latch]
    exact ⟨_, _, _, rfl, fun x f h ho => State.fadeOn_markFrozen h ho true⟩

/-! ### The activation -/

/-- INTERLOCK_ON with its CAUSE bit (07, R153). -/
theorem State.interlockOn_posted (hr : s.Reports 1) (st : IlState) (n : Nat) : s.interlockOn st n =
    (({ s with il := { s.il with activation := s.ck.now } } : State).posted clsSystem repInterlockOn
      (w32 s.interlockInput) (w32 (ilCode st)) (w32 n)).setCause 8 :=
  congrArg (fun t : State => t.setCause causeInterlock)
    (State.report_posted (s := { s with il := { s.il with activation := s.ck.now } }) (hr.congr rfl) clsSystem
      repInterlockOn (w32 s.interlockInput) (w32 (ilCode st)) (w32 n))

theorem State.endLowPages_none (h : ∀ p ∈ s.rc.pages, 3 ≤ p.priority) : s.endLowPages = (s, 0) := by
  have none : s.rc.pages.filter (fun p => decide (p.priority < 3)) = [] :=
    List.filter_eq_nil_iff.2 fun p hp => by simpa using h p hp
  simp [State.endLowPages, none]

/-- `s` in ACTIVE, with its fades, cue engine and voices written (07, R152). -/
def State.activated (s : State) (F : List Fade) (C : Ce) (V : Vu) : State :=
  { s with lv := { s.lv with fades := F }, vu := V, ce := C, il := { s.il with st := .active, resumeSet := [] } }

/-- What an activation from CLEAR leaves, where no page ends by it, beside voices and the times of the cue engine (07,
R152, R153). -/
structure Activates (s t : State) : Prop where
  il : t.il = { s.il with st := .active, resumeSet := [], activation := s.ck.now }
  frozen : t.frozen = true
  level : ∀ x, t.levelOf x = s.levelOf x
  fade : ∀ x ∈ interlockTargets, t.fadeOn x = some (s.offFade x)
  ml : t.ml = ((s.posted clsSystem repInterlockOn (w32 s.interlockInput) (w32 0) (w32 0)).setCause 8).ml
  cu : t.cu = s.cu
  rc : t.rc = s.rc
  fb : t.fb = s.fb
  mx : t.mx = s.mx
  ck : t.ck = s.ck
  notices : t.notices = s.notices

/-- The activation from CLEAR, where no offset fades (07, R152, R153). -/
theorem State.activate_clear (hs : s.il.st = .clear) (hr : s.lv.fades.length + 56 ≤ 1024)
    (hl : s.ce.latched = none) (hn : ∀ f ∈ s.lv.fades, f.target ∉ interlockTargets)
    (hp : ∀ p ∈ s.rc.pages, 3 ≤ p.priority) (reports : s.Reports 1) : Activates s s.activate := by
  have unfading : ∀ x ∈ interlockTargets, s.fadeOn x = none := fun x hx =>
    State.fadeOn_none_iff.2 fun f hf e => hn f hf (e ▸ hx)
  have entered : interlockTargets.foldl (fun s x => s.fadeTo x off 250 .linear .interlock)
      { s with il := { s.il with st := .active, resumeSet := [] } } =
        s.activated (s.lv.fades ++ interlockTargets.map s.offFade) s.ce s.vu :=
    State.foldl_fadeTo_off interlockTargets { s with il := { s.il with st := .active, resumeSet := [] } }
      (fun _ h => h) interlockTargets_nodup unfading hr
  generalize hF : s.lv.fades ++ interlockTargets.map s.offFade = F₀ at entered
  have stay : (s.activated F₀ s.ce s.vu).endLowPages = (s.activated F₀ s.ce s.vu, 0) := State.endLowPages_none hp
  obtain ⟨F, C, V, locks, kept⟩ := State.afterFreeze_locks (s := s.activated F₀ s.ce s.vu) rfl hl s.frozen
  have runs : s.activate = (((s.activated F₀ s.ce s.vu).afterFreeze s.frozen).repause).interlockOn .clear 0 := by
    unfold State.activate
    simp only [entered, stay, hs]
  have posted := State.interlockOn_posted (s := s.activated F C V) (reports.congr rfl) .clear 0
  have fades : ∀ x ∈ interlockTargets, F.find? (·.target == x) = some (s.offFade x) := fun x hx =>
    kept x (s.offFade x) (hF ▸ State.fadeOn_off (unfading x hx) hx) rfl
  rw [runs, locks]
  show Activates s ((s.activated F C V).interlockOn .clear 0)
  rw [posted]
  refine ⟨rfl, ?_, State.levelOf_congr (F := F) rfl rfl, fades, rfl, rfl, rfl, rfl, rfl, rfl, rfl⟩
  show (C.hold || true || false) = true
  rw [Bool.or_true]
  rfl

/-! ### The deliveries -/

/-- The closing contact enters ACTIVE from CLEAR (07, R152, R153). -/
theorem State.Brings.interlock_activates (h : s.Brings c .interlock true) (hs : s.il.st = .clear)
    (hr : s.lv.fades.length + 56 ≤ 1024) (hl : s.ce.latched = none)
    (hn : ∀ f ∈ s.lv.fades, f.target ∉ interlockTargets) (hp : ∀ p ∈ s.rc.pages, 3 ≤ p.priority)
    (reports : s.Reports 1) :
    ∃ t : State, exec (.inputChange c w first) s = .next t.granted ∧
      t.il = { s.il with st := .active, resumeSet := [], activation := s.ck.now } ∧
      t.frozen = true ∧ t.interlocked = true ∧
      (∀ x ∈ interlockTargets, t.levelOf x = s.levelOf x ∧ t.fadeOn x = some (s.offFade x)) ∧
      t.ml = ((s.posted clsSystem repInterlockOn (w32 c) (w32 0) (w32 0)).setCause 8).ml ∧
      t.cu = (s.following c .interlock true).cu ∧ t.rc = s.rc ∧ t.fb = s.fb ∧ t.mx = s.mx ∧ t.ck = s.ck := by
  have left : Activates (s.following c .interlock true) (s.following c .interlock true).activate :=
    State.activate_clear hs hr hl hn hp (reports.congr rfl)
  have delivered : (s.following c .interlock true).deliver .interlock c true =
      (s.following c .interlock true).activate := by
    have clear : (s.following c .interlock true).il.st = .clear := hs
    show (s.following c .interlock true).interlockActivation = _
    simp only [State.interlockActivation, clear]
  have off : (s.following c .interlock true).activate.cu.mode = .off := by rw [left.cu]; exact h.off
  have locked : (s.following c .interlock true).activate.interlocked = true := by rw [State.interlocked, left.il]; rfl
  exact ⟨_, h.row delivered off (left.notices.trans h.quiet), left.il, left.frozen, locked,
    fun x hx => ⟨left.level x, left.fade x hx⟩, left.ml, left.cu, left.rc, left.fb, left.mx, left.ck⟩

/-- The opening contact leaves ACTIVE for LATCHED (07, R154). -/
theorem State.Brings.interlock_latches (h : s.Brings c .interlock false) (hs : s.il.st = .active)
    (reports : s.Reports 1) : exec (.inputChange c w first) s =
      .next (({ s.following c .interlock false with il := { s.il with st := .latched } } : State).posted clsSystem
        repInterlockLatched (w32 c) (w32 (s.ck.now - s.il.activation)) (w32 0)).granted := by
  have active : (s.following c .interlock false).il.st = .active := hs
  have posted := State.report_posted (s := (s.following c .interlock false).setIl .latched) (reports.congr rfl)
    clsSystem repInterlockLatched (w32 c) (w32 (s.ck.now - s.il.activation)) (w32 0)
  have delivered : (s.following c .interlock false).deliver .interlock c false =
      ((s.following c .interlock false).setIl .latched).report clsSystem repInterlockLatched (w32 c)
        (w32 (s.ck.now - s.il.activation)) (w32 0) := by
    show (s.following c .interlock false).interlockDeactivation = _
    simp only [State.interlockDeactivation, active]
    rfl
  exact h.row (delivered.trans posted) h.off h.quiet

/-- The closing contact enters ACTIVE again from LATCHED (07, R153). -/
theorem State.Brings.interlock_returns (h : s.Brings c .interlock true) (hs : s.il.st = .latched)
    (reports : s.Reports 1) : exec (.inputChange c w first) s =
      .next ((({ s.following c .interlock true with il := { s.il with
        st := .active, activation := s.ck.now } } : State).posted clsSystem repInterlockOn (w32 c) (w32 2)
          (w32 0)).setCause 8).granted := by
  have latched : (s.following c .interlock true).il.st = .latched := hs
  have on := State.interlockOn_posted (s := (s.following c .interlock true).setIl .active) (reports.congr rfl) .latched 0
  have delivered : (s.following c .interlock true).deliver .interlock c true =
      ((s.following c .interlock true).setIl .active).interlockOn .latched 0 := by
    show (s.following c .interlock true).interlockActivation = _
    simp only [State.interlockActivation, latched]
  exact h.row (delivered.trans on) h.off h.quiet

end

end Sys2Proof.Machine
end

section
/-! PROOFS. INPUT_CHANGE: PAGE_n is delivered (06, R127–R135, R138, R140, R145). -/

namespace Sys2Proof.Machine

section
variable {s : State} {c w n z : Nat} {first : List Nat} {b : Button} {p : Page}

/-! ### The page of a button -/

/-- Where programme is disabled a zone does not duck (06, R133). -/
theorem State.duckZone_off (h : (s.zone z).programme = false) : s.duckZone z = s := by
  simp [State.duckZone, h]

/-- After the grant of a zone that does not duck, the only page is on air (06, R132, R134, R135). -/
theorem State.grant_still {q : Page} (h1 : 1 ≤ z) (h2 : z ≤ 32)
    (hz : ∀ y, 1 ≤ y → y ≤ 32 → (s.zone y).holder = none) (hp : (s.zone z).programme = false)
    (hd : (s.zone z).duckFade ≠ .attack) (hr : s.Reports 2) :
    ∃ R, (((s.joined q).grantedTo z q).duckZone z).tryLeaveAttack q.id =
        { s with
          ml := ((s.posted clsPage repPageGranted (w32 q.id) (BitVec.twoPow 32 (z - 1)) (w32 0)).posted clsPage
            repPageOnAir (w32 q.id) (BitVec.twoPow 32 (z - 1)) (w32 q.priority)).ml
          rc := R } ∧
      R.Grants s.rc.mics z q (s.aired q.inAttack) := by
  have zone := State.grantedTo_zone (s := s.joined q) (q := q) h1 h2
  have held : (((s.joined q).grantedTo z q).zone z).holder = some q.id := by rw [zone]
  have others : ∀ y, 1 ≤ y → y ≤ 32 → y ≠ z → (((s.joined q).grantedTo z q).zone y).holder = none :=
    fun y y1 y2 hy => (congrArg Zone.holder (State.grantedTo_zone_other h1 y1 hy)).trans (hz y y1 y2)
  have still : ((s.joined q).grantedTo z q).duckZone z = (s.joined q).grantedTo z q :=
    State.duckZone_off (by rw [zone]; exact hp)
  have air := State.tryLeaveAttack_onAir (p := q.inAttack) (s := (s.joined q).grantedTo z q) h1 h2 held others rfl
    rfl rfl (by rw [zone]; exact hd) ((hr.posted _ _ _ _ _).congr rfl)
  exact ⟨_, (congrArg (fun t : State => t.tryLeaveAttack q.id) still).trans air, ⟨rfl, held, others, rfl⟩⟩

/-- The button of a zone that is free, by P1, while no page is in the table: its page is granted, and on air at once
(06, R145). -/
theorem State.pressPage_onAir (hb : tget s.rc.buttons (n - 1) none = some b) (h1 : 1 ≤ z) (h2 : z ≤ 32)
    (zones : b.zones = BitVec.twoPow 32 (z - 1)) (groups : b.groups = 0) (mic : b.mic = 1)
    (full : b.partialMode = false) (hp : s.rc.pages = []) (hi : s.interlocked = false)
    (hz : ∀ y, 1 ≤ y → y ≤ 32 → (s.zone y).holder = none) (hpr : (s.zone z).programme = false)
    (hd : (s.zone z).duckFade ≠ .attack) (hm : s.micFree 1 = true) (hr : s.Reports 2) :
    ∃ k e R, s.pressPage n =
        { s with
          ml := ((s.posted clsPage repPageGranted (w32 (0xFF00 + n)) b.zones (w32 0)).posted clsPage repPageOnAir
            (w32 (0xFF00 + n)) b.zones (w32 b.priority)).ml
          rc := R } ∧
      R.Grants s.rc.mics z (s.buttonPage n b) (s.aired ((s.buttonPage n b).arrived k e).inAttack) := by
  have asked : (s.buttonPage n b).zones = BitVec.twoPow 32 (z - 1) := by
    show s.requested b.zones b.groups = _
    rw [groups, s.requested_zones, zones]
  have asks : ¬ (s.buttonPage n b).zones = 0 := fun h0 => by
    have bit := (inSet_twoPow h1 h1 h2).2 rfl
    rw [← asked, h0] at bit
    simp [inSet] at bit
  have new : s.page (s.buttonPage n b).id = none := by simp [State.page, hp]
  obtain ⟨k, e, enters⟩ := State.takePage_enters (q := s.buttonPage n b) hi new (by simp [hp])
  have alone : (s.joined ((s.buttonPage n b).arrived k e)).rc.pages = [(s.buttonPage n b).arrived k e] := by
    simp [State.joined, hp]
  have freeMic : s.micFree b.mic = true := by rw [mic]; exact hm
  have grantable := State.grantable_free (s := s.joined ((s.buttonPage n b).arrived k e))
    (q := (s.buttonPage n b).arrived k e) hz full rfl rfl freeMic
  obtain ⟨R, aired, grants⟩ := State.grant_still (q := (s.buttonPage n b).arrived k e) h1 h2 hz hpr hd hr
  have granted := State.grant_free (s := s.joined ((s.buttonPage n b).arrived k e))
    (q := (s.buttonPage n b).arrived k e) h1 h2 hz asked rfl rfl alone ((hr.mono (by decide)).congr rfl)
  have scanned := (State.scan_single alone rfl grantable).trans (granted.trans aired)
  have taken := enters _ (s.aired ((s.buttonPage n b).arrived k e).inAttack) scanned
    (State.page_single (p := s.aired ((s.buttonPage n b).arrived k e).inAttack) grants.pages) nofun
  have pressed : s.pressPage n = (s.takePage (s.buttonPage n b)).1 := by
    simp only [State.pressPage, hb]
    rw [if_neg (not_or.2 ⟨by simp [new], asks⟩)]
  refine ⟨k, e, R, ?_, ⟨grants.pages, grants.holder, grants.others, grants.mics⟩⟩
  rw [pressed, taken, zones]
  rfl

/-! ### The deliveries -/

/-- A button that is UNSET does nothing (06, R145). -/
theorem State.Brings.page_unset (h : s.Brings c (.page n) true) (hb : tget s.rc.buttons (n - 1) none = none) :
    exec (.inputChange c w first) s = .next (s.following c (.page n) true).granted := by
  have unset : tget (s.following c (.page n) true).rc.buttons (n - 1) none = none := hb
  have delivered : (s.following c (.page n) true).pressPage n = s.following c (.page n) true := by
    simp only [State.pressPage, unset]
  exact h.row delivered h.off h.quiet

/-- The opening contact releases its button's page (06, R140, R145). -/
theorem State.Brings.page_released (h : s.Brings c (.page n) false) (hp : s.page (0xFF00 + n) = some p)
    (hw : p.st = .waiting) (hr : s.Reports 1) : exec (.inputChange c w first) s =
      .next (({ s.following c (.page n) false with rc := { s.rc with
        pages := s.rc.pages.filter fun q => !(q.id == 0xFF00 + n) } } : State).posted clsPage repPageEnded
          (w32 (0xFF00 + n)) (w32 (pageCauseCode .released)) (w32 0)).granted := by
  have id := State.page_id hp
  have page : (s.following c (.page n) false).page p.id = some p := id ▸ hp
  have ends := State.endPage_waiting page hw (hr.congr rfl) .released (by decide)
  rw [id] at ends
  exact h.row ends h.off h.quiet

/-- The closing contact puts its button's page on air (06, R145). -/
theorem State.Brings.page_onAir (h : s.Brings c (.page n) true) (hb : tget s.rc.buttons (n - 1) none = some b)
    (h1 : 1 ≤ z) (h2 : z ≤ 32) (zones : b.zones = BitVec.twoPow 32 (z - 1)) (groups : b.groups = 0)
    (mic : b.mic = 1) (full : b.partialMode = false) (hp : s.rc.pages = []) (hi : s.interlocked = false)
    (hz : ∀ y, 1 ≤ y → y ≤ 32 → (s.zone y).holder = none) (hpr : (s.zone z).programme = false)
    (hd : (s.zone z).duckFade ≠ .attack) (hm : s.micFree 1 = true) (hr : s.Reports 2) :
    ∃ (t : State) (q : Page), exec (.inputChange c w first) s = .next t.granted ∧ t.rc.pages = [q] ∧
      q.id = 0xFF00 + n ∧ q.priority = b.priority ∧ q.st = .onAir ∧ q.gate = true ∧ q.live = true ∧
      q.waitLimit = none ∧ q.lengthExpiry = some (s.ck.now + 600 * s.ck.rate) ∧
      (t.zone z).holder = some (0xFF00 + n) ∧ t.micFree 1 = false ∧ t.cu = (s.following c (.page n) true).cu ∧
      t.ml = ((s.posted clsPage repPageGranted (w32 (0xFF00 + n)) b.zones (w32 0)).posted clsPage
        repPageOnAir (w32 (0xFF00 + n)) b.zones (w32 b.priority)).ml ∧
      t.lv = s.lv ∧ t.mx = s.mx ∧ t.vu = s.vu ∧ t.ce = s.ce ∧ t.il = s.il ∧ t.ck = s.ck := by
  obtain ⟨k, e, R, pressed, grants⟩ := State.pressPage_onAir (s := s.following c (.page n) true) hb h1 h2 zones groups
    mic full hp hi hz hpr hd hm (hr.congr rfl)
  have taken : (tget R.mics (1 - 1) none).isNone = false :=
    mic ▸ grants.micFree (Nat.le_of_eq mic.symm) (mic.trans_le (by decide))
  exact ⟨_, _, h.row pressed h.off h.quiet, grants.pages, rfl, rfl, rfl, rfl, rfl, rfl, rfl, grants.holder, taken, rfl,
    rfl, rfl, rfl, rfl, rfl, rfl, rfl⟩

end

end Sys2Proof.Machine
end

section
/-! PROOFS. INPUT_CHANGE: the pattern watcher, and every clause of an input change (08, R159–R165). -/

namespace Sys2Proof.Machine

section
variable {s : State} {c w : Nat} {first : List Nat} {k : Cue}

/-! ### The watcher -/

theorem State.watch_event (hc : c ≤ 16) (hm : s.cu.mode = .event) :
    s.watch c = if inSet s.cu.mask c then s.firePattern 0 else s := by
  simp only [State.watch, if_neg (Nat.not_lt.2 hc), hm]

/-- `s` with the watcher's `equal` brought up to date (08, R165). -/
def State.compared (s : State) : State := { s with cu := { s.cu with
  equal := decide (s.pattern &&& s.cu.mask = s.cu.compare &&& s.cu.mask) } }

theorem State.watch_matching (hc : c ≤ 16) (hm : s.cu.mode = .matching) :
    s.watch c = if s.compared.cu.equal && !s.cu.equal then s.compared.firePattern 1 else s.compared := by
  unfold State.watch
  rw [if_neg (Nat.not_lt.2 hc)]
  split
  · next off => rw [hm] at off; cases off
  · next event => rw [hm] at event; cases event
  · rfl

/-- A firing with action REPORT (08, R165). -/
theorem State.firePattern_report (ha : s.cu.action = .report) (hr : s.Reports 1) (m : Nat) :
    s.firePattern m = s.posted clsSystem repInputPattern (w32 m) (s.pattern.setWidth 32) 0 := by
  have raised : s.report clsSystem repInputPattern (w32 m) (s.pattern.setWidth 32) (patternActionWord s.cu.action) =
      s.posted clsSystem repInputPattern (w32 m) (s.pattern.setWidth 32) 0 := by
    rw [ha]
    exact State.report_posted hr _ _ _ _ _
  have action : (s.posted clsSystem repInputPattern (w32 m) (s.pattern.setWidth 32) 0).cu.action = .report := ha
  simp only [State.firePattern, raised, action]

/-- A firing with action GO, where a last cue stands armed (04, R86; 08, R165). -/
theorem State.firePattern_go (ha : s.cu.action = .go) (hk : s.LastCue k) (hr : s.Reports 3) (m : Nat) :
    s.firePattern m = (s.posted clsSystem repInputPattern (w32 m) (s.pattern.setWidth 32) 1).playedLast k := by
  have cue : (s.posted clsSystem repInputPattern (w32 m) (s.pattern.setWidth 32) 1).LastCue k := hk.congr rfl rfl rfl
  have raised : s.report clsSystem repInputPattern (w32 m) (s.pattern.setWidth 32) (patternActionWord s.cu.action) =
      s.posted clsSystem repInputPattern (w32 m) (s.pattern.setWidth 32) 1 := by
    rw [ha]
    exact State.report_posted (hr.mono (by decide)) _ _ _ _ _
  have action : (s.posted clsSystem repInputPattern (w32 m) (s.pattern.setWidth 32) 1).cu.action = .go := ha
  simp only [State.firePattern, raised, action]
  exact cue.goFrom (hr.posted _ _ _ _ _) .pattern

/-! ### An input that only the watcher sees -/

/-- The debounced change of input `c` is due, and no function is routed to it. -/
structure State.Unrouted (s : State) (c : Nat) : Prop where
  running : s.ml.part = .running
  quiet : s.notices = []
  due : (s.input c).due = true
  routes : ∀ r ∈ s.cu.routes, r.input ≠ c

/-- The row comes to what the watcher comes to. -/
theorem State.Unrouted.row (h : s.Unrouted c) {t : State} (ht : (s.flipped c).watch c = t) (hn : t.notices = []) :
    exec (.inputChange c w first) s = .next t.granted :=
  exec_inputChange_due h.running h.due ((State.inputChange_unrouted h.routes).trans ht) hn

/-- With the watcher off only the input changes. -/
theorem State.Unrouted.off (h : s.Unrouted c) (hm : s.cu.mode = .off) :
    exec (.inputChange c w first) s = .next (s.flipped c).granted :=
  h.row (State.watch_off (s := s.flipped c) hm c) h.quiet

theorem State.Unrouted.event_unwatched (h : s.Unrouted c) (hc : c ≤ 16) (hm : s.cu.mode = .event)
    (hi : inSet s.cu.mask c = false) : exec (.inputChange c w first) s = .next (s.flipped c).granted := by
  have seen := State.watch_event (s := s.flipped c) hc hm
  rw [if_neg (by exact Bool.eq_false_iff.1 hi)] at seen
  exact h.row seen h.quiet

/-- A watched change in EVENT fires (08, R165). -/
theorem State.Unrouted.event_fires (h : s.Unrouted c) (hc : c ≤ 16) (hm : s.cu.mode = .event)
    (hi : inSet s.cu.mask c = true) {t : State} (ht : (s.flipped c).firePattern 0 = t) (hn : t.notices = []) :
    exec (.inputChange c w first) s = .next t.granted := by
  have seen := State.watch_event (s := s.flipped c) hc hm
  rw [if_pos (by exact hi), ht] at seen
  exact h.row seen hn

/-- In MATCH nothing fires where the pattern was equal or is not (08, R165). -/
theorem State.Unrouted.match_still (h : s.Unrouted c) (hc : c ≤ 16) (hm : s.cu.mode = .matching)
    (hn : s.cu.equal = true ∨ (s.flipped c).pattern &&& s.cu.mask ≠ s.cu.compare &&& s.cu.mask) :
    exec (.inputChange c w first) s = .next (s.flipped c).compared.granted := by
  have still : ((s.flipped c).compared.cu.equal && !(s.flipped c).cu.equal) = false := by
    rcases hn with was | differs
    · rw [show (s.flipped c).cu.equal = true from was, Bool.not_true, Bool.and_false]
    · rw [show (s.flipped c).compared.cu.equal = false from decide_eq_false differs, Bool.false_and]
  have seen := State.watch_matching (s := s.flipped c) hc hm
  rw [still, if_neg Bool.false_ne_true] at seen
  exact h.row seen h.quiet

/-- In MATCH the watcher fires where the pattern becomes equal (08, R165). -/
theorem State.Unrouted.match_fires (h : s.Unrouted c) (hc : c ≤ 16) (hm : s.cu.mode = .matching)
    (was : s.cu.equal = false) (now : (s.flipped c).pattern &&& s.cu.mask = s.cu.compare &&& s.cu.mask)
    (ha : s.cu.action = .report) (hr : s.Reports 1) : exec (.inputChange c w first) s =
      .next (({ s.flipped c with cu := { (s.flipped c).cu with equal := true } } : State).posted clsSystem
        repInputPattern (w32 1) ((s.flipped c).pattern.setWidth 32) 0).granted := by
  have equal : (s.flipped c).compared.cu.equal = true := decide_eq_true now
  have compared : (s.flipped c).compared = { s.flipped c with cu := { (s.flipped c).cu with equal := true } } := by
    rw [← equal]
    rfl
  have seen := State.watch_matching (s := s.flipped c) hc hm
  rw [equal, show (s.flipped c).cu.equal = false from was, if_pos (by rfl),
    State.firePattern_report (s := (s.flipped c).compared) ha (hr.congr rfl), compared] at seen
  exact h.row seen h.quiet

end

/-- Settles O21: the routes of the input decide which function follows it, and the watcher's mode whether it fires. -/
theorem inputChangeFlips : Obligations.InputChangeFlips := by
  intro s c w first h1 h2 hp hq x flipped on change closes opens
  refine ⟨exec_inputChange_early, fun hd hm hr => ?_, fun hd hm => ?_, fun hd hr hc => ?_⟩
  · exact State.Unrouted.off ⟨hp, hq, hd, hr⟩ hm
  · have closing : ∀ {fn code}, funcOf code = some fn → closes fn → s.Brings c fn true :=
      fun hf ⟨hx, hr⟩ => ⟨h1, h2, hp, hq, hd, hm, hx, hr, _, hf⟩
    have opening : ∀ {fn code}, funcOf code = some fn → opens fn → s.Brings c fn false :=
      fun hf ⟨hx, hr⟩ => ⟨h1, h2, hp, hq, hd, hm, hx, hr, _, hf⟩
    refine ⟨fun k h => (closing (code := 0) rfl h).go_triggers, fun h => (closing (code := 0) rfl h).go_latches,
      fun k n n1 n2 h => (closing (funcOf_trig n1 n2) h).trig_triggers,
      fun fn code hf he h => (opening hf h).edge_ends he, fun h => (closing (code := 4) rfl h).mark_posts,
      fun hx => ⟨fun h => (closing (code := 2) rfl h).talk_handed hx,
        fun h => (opening (code := 2) rfl h).talk_handed hx⟩,
      fun h hz hl => (closing (code := 1) rfl h).hold_follows (State.setHold_begins hz hl),
      fun h hh hi hf hw => (opening (code := 1) rfl h).hold_follows (State.setHold_ends hh hi hf hw),
      fun h => (closing (code := 3) rfl h).interlock_activates, fun h => (opening (code := 3) rfl h).interlock_latches,
      fun h => (closing (code := 3) rfl h).interlock_returns,
      fun n n1 n2 h => (closing (funcOf_page n1 n2) h).page_unset, ?_,
      fun n p n1 n2 h => (opening (funcOf_page n1 n2) h).page_released⟩
    intro n z b n1 n2 h hb z1 z2 zones groups mic full
    exact (closing (funcOf_page n1 n2) h).page_onAir hb z1 z2 zones groups mic full
  · have input : s.Unrouted c := ⟨hp, hq, hd, hr⟩
    exact ⟨input.event_unwatched hc,
      fun hm hi ha hr => input.event_fires hc hm hi
        (State.firePattern_report (s := s.flipped c) ha (hr.congr rfl) 0) hq,
      fun k hm hi ha hk hr => input.event_fires hc hm hi
        (State.firePattern_go (s := s.flipped c) ha (hk.congr rfl rfl rfl) (hr.congr rfl) 0) hq,
      input.match_still hc, input.match_fires hc⟩

end Sys2Proof.Machine
end

section
/-! PROOFS. Changeovers, SET_CLOCK_LIMITS, RELOCK and SELECT_CLOCK (09, R173, R175–R177). -/

namespace Sys2Proof.Machine

section
variable {s t : State} {r : Link}

/-! ### Changeovers -/

/-- The clock unit once a changeover to a reference has been decided, up to the boundary named (09, R175). -/
def Ck.changingTo (k : Ck) (ext : Bool) : Ck :=
  { k with
    selected := ext, changeovers := (k.changeovers + 1) % 2 ^ 32, silentNext := some (nextBoundary k.now) }

/-- With no boundary awaited, a changeover to the other reference begins at once (09, R175). -/
theorem State.changeover_begins (ext : Bool) (hs : s.ck.selected = !ext) (hn : s.ck.silentNext = none) :
    s.changeover ext = s.setCk (s.ck.changingTo ext) := by
  have settled : s.takeBoundary = s := by simp [State.takeBoundary, State.boundaryDue, hn]
  simp only [State.changeover, settled]
  exact if_neg (by simp [hs])

/-- The external reference is in use, no boundary is awaited, and a report can wait: what a fall-back or SELECT_CLOCK
INTERNAL needs to leave it in one step. -/
structure State.OnExternal (s : State) : Prop where
  selected : s.ck.selected = true
  noBoundary : s.ck.silentNext = none
  reports : s.Reports 1

/-- `s` in the clock state `x`, with the changeover to the internal reference begun and reported (09, R174, R177). -/
def State.leftExternal (s : State) (x : ClockState) (cause : Nat) (d : Int) : State :=
  (s.setCk ({ s.ck with st := x }.changingTo false)).posted clsSystem repClockChangeover (w32 cause) (w32i d)
    (w32 ((s.ck.changeovers + 1) % 2 ^ 32))

theorem State.OnExternal.leaves (h : s.OnExternal) (x : ClockState) (cause : Nat) (d : Int) :
    ((s.setClockState x).changeover false).postChangeover cause d = s.leftExternal x cause d := by
  rw [State.changeover_begins (s := s.setClockState x) false h.selected h.noBoundary]
  exact State.report_posted (s := s.setCk ({ s.ck with st := x }.changingTo false)) (h.reports.congr rfl) ..

theorem State.OnExternal.fallBack (h : s.OnExternal) (cause : Nat) (d : Int) :
    s.fallBack cause d = (s.leftExternal .intFallback cause d).setCause causeClock :=
  congrArg (·.setCause causeClock) (h.leaves .intFallback cause d)

/-! ### RELOCK and SELECT_CLOCK -/

theorem State.acquire_internal (h : s.ck.st = .intFallback ∨ s.ck.st = .intSelected) :
    s.acquire = s.beginAcquire := by
  rcases h with h | h <;> simp only [State.acquire, h]

theorem State.acquire_external (h : s.ck.st = .extGood ∨ s.ck.st = .extWarn) : s.acquire = s := by
  rcases h with h | h <;> simp only [State.acquire, h]

theorem State.relock_internal (h : s.ck.st = .intFallback ∨ s.ck.st = .intSelected) :
    s.relock r = s.beginAcquire.hold r 35 .relock := by
  rw [← State.acquire_internal h]
  rcases h with h | h <;> simp only [State.relock, h]

theorem State.relock_external (h : s.ck.st = .extGood ∨ s.ck.st = .extWarn) : s.relock r = s.finish r .ok := by
  rcases h with h | h <;> simp only [State.relock, h]

theorem State.OnExternal.selectInternal (h : s.OnExternal) (hst : s.ck.st = .extGood ∨ s.ck.st = .extWarn) :
    s.selectInternal = s.leftExternal .intSelected 2 0 := by
  rw [← h.leaves]
  rcases hst with hst | hst <;> simp only [State.selectInternal, hst]

theorem State.selectInternal_fallback (h : s.ck.st = .intFallback) :
    s.selectInternal = s.setClockState .intSelected := by
  simp only [State.selectInternal, h]

theorem State.applySelectClock_range {v : Nat} (h : 1 < v) : s.applySelectClock v = .error { res := .range } := by
  obtain ⟨k, rfl⟩ : ∃ k, v = k + 2 := ⟨v - 2, by omega⟩
  rfl

/-- SELECT_CLOCK EXTERNAL is DONE with what RELOCK does to the clock (09, R176, R177). -/
theorem State.Ready.exec_selectExternal (h : s.Ready r) (ha : s.acquire = t) (hm : s.ml.TakesLike t.ml)
    (hq : t.notices = []) : exec (.selectClock r 1) s = .next (t.outcome r .ok).granted :=
  h.exec_finish rfl (congrArg (·.finish r .ok) ha) hm hq

theorem State.Ready.exec_selectInternal (h : s.Ready r) (hi : s.selectInternal = t) (hm : s.ml.TakesLike t.ml)
    (hq : t.notices = []) : exec (.selectClock r 0) s = .next (t.outcome r .ok).granted :=
  h.exec_finish rfl (congrArg (·.finish r .ok) hi) hm hq

end

/-- Settles O54: the clock state decides what the two commands begin, and whether the record waits. -/
theorem relockAndSelectClock : Obligations.RelockAndSelectClock := by
  intro s r h
  refine ⟨fun hst => ⟨?_, ?_⟩, fun hst => ⟨?_, ?_⟩, fun hst hs hn hr => ?_, fun hst => ?_, fun v hv => ?_⟩
  · exact h.exec_flies rfl (State.relock_internal hst) (.refl _) h.quiet
  · exact h.exec_selectExternal (State.acquire_internal hst) (.refl _) h.quiet
  · exact h.exec_finish rfl (State.relock_external hst) (.refl _) h.quiet
  · exact h.exec_selectExternal (State.acquire_external hst) (.refl _) h.quiet
  · exact h.exec_selectInternal (State.OnExternal.selectInternal ⟨hs, hn, hr⟩ hst) ⟨rfl, rfl, rfl, rfl⟩ h.quiet
  · exact h.exec_selectInternal (State.selectInternal_fallback hst) (.refl _) h.quiet
  · exact h.exec_outOfRange rfl rfl (State.applySelectClock_range hv)

/-! ### SET_CLOCK_LIMITS -/

/-- CLAMPED says that one of the three values settled differs from the one it came from (09, R173). -/
theorem State.applyClockLimits_clamped (s : State) (w c h : Option Nat) :
    let t := (s.applyClockLimits w c h).1
    (s.applyClockLimits w c h).2 =
      decide (t.ck.warn ≠ w.getD s.ck.warn ∨ t.ck.change ≠ c.getD s.ck.change ∨ t.ck.hyst ≠ h.getD s.ck.hyst) := by
  refine Bool.eq_iff_iff.2 (Iff.trans ?_ decide_eq_true_iff.symm)
  simp only [State.applyClockLimits, Bool.or_eq_true, bne_iff_ne, or_assoc]
  rfl

/-- Settles O53: the values settled are those of the model, and each bound follows from the one settled before. -/
theorem clockLimitsSettleInOrder : Obligations.ClockLimitsSettleInOrder := by
  intro s r w c h ready
  refine ⟨_, _, _, rfl, rfl, rfl, by omega, by omega, by omega, by omega, ?_⟩
  exact ready.exec_answered (e := .ok (s.applyClockLimits w c h)) rfl rfl
    (congrArg Except.ok (Prod.ext rfl (s.applyClockLimits_clamped w c h))) rfl rfl

end Sys2Proof.Machine
end

section
/-! PROOFS. Windows, loss events and edges of the word clock (09, R172, R174–R176). -/

namespace Sys2Proof.Machine

section
variable {s t : State} {d : Int} {r : Link} {clamped : Bool}

/-! ### A window judged on the external reference -/

/-- The internal states judge no window; EXT_GOOD stays below W, and EXT_WARN from W − H to below C (09, R174). -/
theorem State.judgeWindow_stays (h : s.ck.st = .intFallback ∨ s.ck.st = .intSelected ∨
    s.ck.st = .extGood ∧ d.natAbs < s.ck.warn ∨
    s.ck.st = .extWarn ∧ s.ck.warn - s.ck.hyst ≤ d.natAbs ∧ d.natAbs < s.ck.change) : s.judgeWindow d = s := by
  rcases h with hst | hst | ⟨hst, hw⟩ | ⟨hst, hh, hc⟩ <;> simp only [State.judgeWindow, hst]
  · exact if_pos hw
  · rw [if_neg (by omega), if_pos hc]

theorem State.judgeWindow_warns (hst : s.ck.st = .extGood) (hw : s.ck.warn ≤ d.natAbs) (hc : d.natAbs < s.ck.change)
    (hr : s.Reports 1) : s.judgeWindow d =
      (s.setClockState .extWarn).posted clsSystem repClockWarn 0 (w32i d) (w32 s.ck.warn) := by
  simp only [State.judgeWindow, hst]
  rw [if_neg (by omega), if_pos hc]
  exact State.report_posted (s := s.setClockState .extWarn) (hr.congr rfl) ..

theorem State.judgeWindow_recovers (hst : s.ck.st = .extWarn) (hh : d.natAbs < s.ck.warn - s.ck.hyst) :
    s.judgeWindow d = s.setClockState .extGood := by
  simp only [State.judgeWindow, hst]
  exact if_pos hh

theorem State.judgeWindow_fallsBack (h : s.ck.st = .extGood ∧ s.ck.warn ≤ d.natAbs ∨
    s.ck.st = .extWarn ∧ s.ck.warn - s.ck.hyst ≤ d.natAbs) (hc : s.ck.change ≤ d.natAbs) :
    s.judgeWindow d = s.fallBack 0 d := by
  rcases h with ⟨hst, hw⟩ | ⟨hst, hw⟩ <;> simp only [State.judgeWindow, hst] <;>
    rw [if_neg (by omega), if_neg (by omega)]

/-! ### A window judged while acquiring -/

theorem State.judgeWindow_acquiring (hst : s.ck.st = .extAcquiring) : s.judgeWindow d = s.acquireWindow d := by
  simp only [State.judgeWindow, hst]

/-- The window under way when the acquisition began is passed over (09, R174; log 24). -/
theorem State.acquireWindow_fresh (hf : s.ck.acqFresh = true) :
    s.acquireWindow d = s.setCk { s.ck with acqFresh := false } :=
  if_pos hf

theorem State.acquireWindow_bad (hf : s.ck.acqFresh = false) (hh : s.ck.warn - s.ck.hyst ≤ d.natAbs) :
    s.acquireWindow d = s.setCk { s.ck with good := 0 } := by
  rw [State.acquireWindow, if_neg (by simp [hf]), if_neg (by omega)]

/-- A good window counts, and the second in a row relocks (09, R174, R176). -/
theorem State.acquireWindow_good (hf : s.ck.acqFresh = false) (hh : d.natAbs < s.ck.warn - s.ck.hyst) :
    s.acquireWindow d = if 2 ≤ s.ck.good + 1 then (s.setCk { s.ck with good := s.ck.good + 1 }).relocked d
      else s.setCk { s.ck with good := s.ck.good + 1 } := by
  rw [State.acquireWindow, if_neg (by simp [hf]), if_pos hh]
  rfl

/-- `s` in EXT_GOOD with the changeover to the external reference begun and reported, and no command in flight: what a
relock leaves besides the record of RELOCK (09, R174, R176). -/
def State.onExternalAgain (s : State) (d : Int) : State :=
  ((s.setCk ({ s.ck with st := .extGood }.changingTo true)).withFlights []).posted clsSystem repClockRelocked 0
    (w32i d) (w32 ((s.ck.changeovers + 1) % 2 ^ 32))

/-- A relock with RELOCK alone in flight: its record is DONE after the report (09, R176; 11, R192). -/
theorem State.relocked_finishes (hs : s.ck.selected = false) (hn : s.ck.silentNext = none) (hr : s.Reports 1)
    (hi : s.ml.inflight = [⟨r, 35, .relock, clamped⟩]) (hb : s.ml.reader ≠ .blocked)
    (h9 : s.ml.allows (linkPlus r 9) 15 true = true) (h8 : s.ml.allows (linkPlus r 8) 1 true = true) :
    s.relocked d = (s.onExternalAgain d).outcome r .ok .none clamped := by
  have changed : (s.setClockState .extGood).changeover true =
      s.setCk ({ s.ck with st := .extGood }.changingTo true) :=
    State.changeover_begins (s := s.setClockState .extGood) true hs hn
  have posted := State.report_posted (s := s.setCk ({ s.ck with st := .extGood }.changingTo true)) (hr.congr rfl)
    clsSystem repClockRelocked 0 (w32i d) (w32 ((s.ck.changeovers + 1) % 2 ^ 32))
  have finished := State.finishJob_last (s := (s.setCk ({ s.ck with st := .extGood }.changingTo true)).posted clsSystem
      repClockRelocked 0 (w32i d) (w32 ((s.ck.changeovers + 1) % 2 ^ 32))) (l := []) hi (fun _ hx => nomatch hx) hb
    h9 h8 .ok false
  rw [Bool.or_false] at finished
  rw [State.relocked, changed]
  exact (congrArg (·.finishJob .relock .ok) posted).trans finished

/-! ### The end of a window -/

/-- `s` with the deviation of the window that ends kept, and the next window begun (09, R172). -/
def State.measured (s : State) : State :=
  s.setCk { s.ck with
    deviation := deviationOf s.ck.edges s.ck.rate, edges := 0, windowPos := s.ck.windowPos - s.ck.rate }

theorem State.windowEnd_eq : s.windowEnd = s.measured.judgeWindow (deviationOf s.ck.edges s.ck.rate) := rfl

theorem State.windowDue_iff : s.windowDue = true ↔ s.ck.rate ≤ s.ck.windowPos := by simp [State.windowDue]

theorem exec_measurementWindowEnd_due (hp : s.ml.part = .running) (hw : s.ck.rate ≤ s.ck.windowPos)
    (hj : s.measured.judgeWindow (deviationOf s.ck.edges s.ck.rate) = t) (hq : t.notices = []) :
    exec .measurementWindowEnd s = .next t.granted := by
  show execMeasurementWindowEnd s = _
  rw [execMeasurementWindowEnd, State.windowDue_iff.2 hw, Bool.and_true]
  exact State.runningRow (f := State.windowEnd) hp (State.windowEnd_eq.trans hj) hq

theorem exec_measurementWindowEnd_early (hw : s.ck.windowPos < s.ck.rate) :
    exec .measurementWindowEnd s = .next s.granted := by
  have early : s.windowDue = false := by simp [State.windowDue, hw]
  show execMeasurementWindowEnd s = _
  rw [execMeasurementWindowEnd, early, Bool.and_false]
  rfl

/-! ### Loss events -/

theorem State.lossDue_iff : s.lossDue = true ↔ s.ck.lossRaised = false ∧ s.ck.rate / 100 ≤ s.ck.gap := by
  simp [State.lossDue]

theorem State.lossDue_none (h : s.ck.gap < s.ck.rate / 100 ∨ s.ck.lossRaised = true) : s.lossDue = false := by
  rcases h with h | h <;> simp [State.lossDue, h]

/-- `s` with the loss event of this gap raised (09, R172). -/
def State.lossNoted (s : State) : State := s.setCk { s.ck with lossRaised := true }

/-- Only EXT_GOOD and EXT_WARN act on a loss event (09, R174). -/
theorem State.lossEvent_noted (hl : s.ck.lossRaised = false)
    (hst : s.ck.st = .intFallback ∨ s.ck.st = .intSelected ∨ s.ck.st = .extAcquiring) :
    s.lossEvent = s.lossNoted := by
  rcases hst with hst | hst | hst <;> simp [State.lossEvent, hl, hst, State.lossNoted]

theorem State.OnExternal.lossEvent (h : s.OnExternal) (hl : s.ck.lossRaised = false)
    (hst : s.ck.st = .extGood ∨ s.ck.st = .extWarn) :
    s.lossEvent = (s.lossNoted.leftExternal .intFallback 1 0).setCause causeClock := by
  have ready : s.lossNoted.OnExternal := ⟨h.selected, h.noBoundary, h.reports.congr rfl⟩
  rw [← ready.fallBack]
  rcases hst with hst | hst <;> simp [State.lossEvent, hl, hst, State.lossNoted]

theorem exec_lossEvent_due (hp : s.ml.part = .running) (hd : s.lossDue = true) (ht : s.lossEvent = t)
    (hq : t.notices = []) : exec .lossEvent s = .next t.granted := by
  show execLossEvent s = _
  rw [execLossEvent, hd, Bool.and_true]
  exact State.runningRow (f := State.lossEvent) hp ht hq

theorem exec_lossEvent_early (h : s.ck.gap < s.ck.rate / 100 ∨ s.ck.lossRaised = true) :
    exec .lossEvent s = .next s.granted := by
  show execLossEvent s = _
  rw [execLossEvent, State.lossDue_none h, Bool.and_false]
  rfl

/-! ### Edges -/

/-- `s` with one more edge counted, and the gap ended (09, R172). -/
def State.edgeCounted (s : State) : State :=
  s.setCk { s.ck with edges := min (s.ck.edges + 1) (2 * s.ck.rate), gap := 0, lossRaised := false }

/-- The loss event that an edge finds due (log 9). -/
def State.lossChecked (s : State) : State := if s.lossDue then s.lossEvent else s

/-- An edge comes after the end of a window that has run its periods, and then after a loss event that is due
(09, R172; log 9). -/
theorem State.clockEdge_afterWindow (hw : s.ck.rate ≤ s.ck.windowPos)
    (hj : s.measured.judgeWindow (deviationOf s.ck.edges s.ck.rate) = t) :
    s.clockEdge = t.lossChecked.edgeCounted := by
  rw [← hj, ← State.windowEnd_eq, State.clockEdge, State.windowDue_iff.2 hw]
  rfl

theorem State.clockEdge_withinWindow (hw : s.ck.windowPos < s.ck.rate) :
    s.clockEdge = s.lossChecked.edgeCounted := by
  have early : s.windowDue = false := by simp [State.windowDue, hw]
  rw [State.clockEdge, early]
  rfl

/-- A loss event that only notes itself is forgotten by the edge, which ends the gap. -/
theorem State.edgeCounted_lossChecked (h : s.ck.gap < s.ck.rate / 100 ∨ s.ck.lossRaised = true ∨
    s.ck.st = .intFallback ∨ s.ck.st = .intSelected ∨ s.ck.st = .extAcquiring) :
    s.lossChecked.edgeCounted = s.edgeCounted := by
  unfold State.lossChecked
  cases due : s.lossDue with
  | false => rfl
  | true =>
    obtain ⟨hl, hg⟩ := State.lossDue_iff.1 due
    have quiet : s.ck.st = .intFallback ∨ s.ck.st = .intSelected ∨ s.ck.st = .extAcquiring :=
      (h.resolve_left (by omega)).resolve_left (by simp [hl])
    rw [if_pos rfl, State.lossEvent_noted hl quiet]
    rfl

theorem exec_wordClockEdge_comes (hp : s.ml.part = .running) (hc : s.clockEdge = t) (hq : t.notices = []) :
    exec .wordClockEdge s = .next t.granted :=
  State.runningRow (f := State.clockEdge) hp hc hq

end

/-- Settles O22: the clock state and the deviation decide what a window comes to, and the clock state what a loss event
does; an edge that finds either due comes after it. -/
theorem clockJudgesItsReference : Obligations.ClockJudgesItsReference := by
  refine ⟨fun s d hp hq hw hd => ?_, fun s hp hq => ⟨exec_measurementWindowEnd_early, ?_, ?_, exec_lossEvent_early,
    ?_, ?_⟩⟩
  · subst hd
    have judged {t : State} (hj : s.measured.judgeWindow (deviationOf s.ck.edges s.ck.rate) = t)
        (hn : t.notices = []) := exec_measurementWindowEnd_due hp hw hj hn
    refine ⟨fun hst => ?_, fun hst hlo hhi hr => ?_, fun hst hlo => ?_, fun hst hhi hr hs hn => ?_, fun hst => ?_⟩
    · have stays := State.judgeWindow_stays (s := s.measured) hst
      refine ⟨judged stays hq, fun hl => ?_⟩
      have counted := State.edgeCounted_lossChecked (s := s.measured) (hl.imp_right (.imp_right (.imp_right .inl)))
      exact exec_wordClockEdge_comes hp ((State.clockEdge_afterWindow hw stays).trans counted) hq
    · exact judged (State.judgeWindow_warns (s := s.measured) hst hlo hhi (hr.congr rfl)) hq
    · exact judged (State.judgeWindow_recovers (s := s.measured) hst hlo) hq
    · have external : s.measured.OnExternal := ⟨hs, hn, hr.congr rfl⟩
      exact judged ((State.judgeWindow_fallsBack (s := s.measured) hst hhi).trans (external.fallBack 0 _)) hq
    · have acquiring := State.judgeWindow_acquiring (s := s.measured) (d := deviationOf s.ck.edges s.ck.rate) hst
      refine ⟨fun hf => ?_, fun hf hh => ?_, fun hf hh hg => ?_, fun r clamped hf hh hg hr hs hn hi hb h9 h8 => ?_⟩
      · exact judged (acquiring.trans (State.acquireWindow_fresh (s := s.measured) hf)) hq
      · exact judged (acquiring.trans (State.acquireWindow_bad (s := s.measured) hf hh)) hq
      · have first := State.acquireWindow_good (s := s.measured) hf hh
        rw [show s.measured.ck.good = 0 from hg] at first
        exact judged (acquiring.trans first) hq
      · have second := State.acquireWindow_good (s := s.measured) hf hh
        rw [show s.measured.ck.good = 1 from hg] at second
        have relocks := State.relocked_finishes (s := s.measured.setCk { s.measured.ck with good := 2 })
          (d := deviationOf s.ck.edges s.ck.rate) hs hn (hr.congr rfl) hi hb h9 h8
        exact judged (acquiring.trans (second.trans relocks)) hq
  · intro hg hl hst hr hs hn
    have external : s.OnExternal := ⟨hs, hn, hr⟩
    exact exec_lossEvent_due hp (State.lossDue_iff.2 ⟨hl, hg⟩) (external.lossEvent hl hst) hq
  · intro hg hl hst
    exact exec_lossEvent_due hp (State.lossDue_iff.2 ⟨hl, hg⟩) (State.lossEvent_noted hl hst) hq
  · intro hw hl
    exact exec_wordClockEdge_comes hp
      ((State.clockEdge_withinWindow hw).trans (State.edgeCounted_lossChecked hl)) hq
  · intro hw hg hl hst hr hs hn
    have external : s.OnExternal := ⟨hs, hn, hr⟩
    have lost : s.lossChecked = (s.lossNoted.leftExternal .intFallback 1 0).setCause causeClock :=
      (if_pos (State.lossDue_iff.2 ⟨hl, hg⟩)).trans (external.lossEvent hl hst)
    exact exec_wordClockEdge_comes hp ((State.clockEdge_withinWindow hw).trans (congrArg State.edgeCounted lost)) hq

end Sys2Proof.Machine
end

section
/-! PROOFS. CAUSE bits stay set (10, R180). -/

namespace Sys2Proof.Machine

/-- Settles O60: a row that clears no CAUSE bit keeps them all, and so do the grants at its end. -/
theorem causeBitsStaySet : Obligations.CauseBitsStaySet := by
  intro s t c rest front hc ht
  obtain ⟨u, row, holds⟩ := exec_holds c hc { s with pending := rest }
  simp only [step, front, row] at ht
  cases ht
  exact (holds.trans u.granted_holds).cause

end Sys2Proof.Machine
end

section
/-! PROOFS. Soft reset, the reads it leaves, the register window, and the looks owed by WAKE and the poll timer (10,
R179–R181; 11, R190). -/

namespace Sys2Proof.Machine

/-! ### A read that returns -/

section
variable {m : Ml} {before after : List Outstanding} {u : ReadUse} {addr len : Nat} {link : Link}

/-- The first read outstanding for `u` frees its slot and leaves the others (10, R187). -/
theorem Ml.freeSlot_first (hs : m.slots = before ++ ⟨u, addr, len, link⟩ :: after) (hb : ∀ o ∈ before, o.use ≠ u) :
    m.freeSlot u = { m with slots := before ++ after } := by
  have others : ∀ o ∈ before, ¬ (o.use == u) = true := fun o ho => by simpa using hb o ho
  rw [Ml.freeSlot, hs, List.eraseP_append_right _ others,
    List.eraseP_cons_of_pos (p := fun o : Outstanding => o.use == u) (beq_self_eq_true u)]

theorem Ml.isOut_first (hs : m.slots = before ++ ⟨u, addr, len, link⟩ :: after) : m.isOut u = true := by
  simp [Ml.isOut, hs]

theorem Ml.dropRead_data (m : Ml) (now : Nat) (u : ReadUse) (b : List Byte) :
    m.dropRead now u (.data b) = m.freeSlot u := rfl

/-- A bus error on a read whose use names no block sets MEMORY_FAULT alone (10, R180; log 38). -/
theorem Ml.dropRead_busError_blockless (hs : m.slots = before ++ ⟨u, addr, len, link⟩ :: after)
    (hb : ∀ o ∈ before, o.use ≠ u) (hu : useBlock u = none) (now : Nat) :
    m.dropRead now u .busError = (m.freeSlot u).setCause causeMemoryFault := by
  have others : before.find? (fun o => o.use == u) = none := by simpa using hb
  have found : m.slots.find? (fun o => o.use == u) = some ⟨u, addr, len, link⟩ := by
    rw [hs, List.find?_append, others, Option.none_or,
      List.find?_cons_of_pos (p := fun o : Outstanding => o.use == u) (beq_self_eq_true u)]
  simp only [Ml.dropRead, found, hu]

end

/-! ### Soft reset -/

/-- A soft reset leaves the part STOPPED, where the arbiter grants nothing (10, R181). -/
theorem State.softReset_granted (s : State) : s.softReset.granted = s.softReset :=
  State.granted_of_none (State.grantDue_still (.inl rfl))

/-- Settles O3: no grant is due after the reset, and an orphan names no block. -/
theorem softResetKeepsRootAndReads : Obligations.SoftResetKeepsRootAndReads := by
  refine ⟨fun s => congrArg Host.Outcome.next s.softReset_granted, fun s before after addr len link hs hb => ?_⟩
  have freed := Ml.freeSlot_first hs hb
  have row {d : ReadData} {m : Ml} (hd : s.ml.dropRead s.ck.now .orphan d = m) :
      exec (.orphanReadReturn d) s = .next (s.withMl m).granted := by
    subst hd
    rfl
  refine ⟨fun b => row ((Ml.dropRead_data ..).trans freed), row ?_⟩
  rw [Ml.dropRead_busError_blockless hs hb rfl, freed]
  rfl

/-! ### Looks owed -/

section
variable {m : Ml}

/-- A WAITING reader begins the look that it is owed (11, R190). -/
theorem Ml.oweLook_waiting (hp : m.part = .running) (hr : m.reader = .waiting) :
    m.oweLook = { m with reader := .looking, lookOwed := false } := by
  simp [Ml.oweLook, Ml.beginLook, hp, hr]

theorem Ml.oweLook_busy (hr : m.reader ≠ .waiting) : m.oweLook = { m with lookOwed := true } := by
  simp [Ml.oweLook, Ml.beginLook, hr]

end

section
variable {s : State}

theorem exec_wake_running (hp : s.ml.part = .running) :
    exec .wake s = .next (s.withMl s.ml.oweLook).granted := by
  have running : s.running = true := beq_iff_eq.2 hp
  show Host.Outcome.next s.wake.granted = _
  rw [State.wake, if_pos running]
  rfl

theorem exec_pollTimerExpiry_running (hp : s.ml.part = .running) :
    exec .pollTimerExpiry s = .next (s.withMl { s.ml.oweLook with pollStart := s.ck.now }).granted := by
  have running : s.running = true := beq_iff_eq.2 hp
  show Host.Outcome.next (if s.running then s.pollExpiry else s).granted = _
  rw [if_pos running]
  rfl

/-- Outside RUNNING no look is owed, and no timer runs (10, R179; 11, R190). -/
theorem exec_wake_still (hp : s.ml.part ≠ .running) : exec .wake s = .next s.granted := by
  have still : ¬ s.running = true := by simpa [State.running] using hp
  show Host.Outcome.next s.wake.granted = _
  rw [State.wake, if_neg still]

theorem exec_pollTimerExpiry_still (hp : s.ml.part ≠ .running) : exec .pollTimerExpiry s = .next s.granted := by
  have still : ¬ s.running = true := by simpa [State.running] using hp
  show Host.Outcome.next (if s.running then s.pollExpiry else s).granted = _
  rw [if_neg still]

end

/-- Settles O5: outside RUNNING neither acts, and in RUNNING the reader's state decides whether the look begins. -/
theorem looksOwedByWakeAndPoll : Obligations.LooksOwedByWakeAndPoll := by
  refine fun s => ⟨fun hp hr => ?_, fun hp hr => ?_, fun hp => ⟨exec_wake_still hp, exec_pollTimerExpiry_still hp⟩⟩
  · rw [exec_wake_running hp, exec_pollTimerExpiry_running hp, Ml.oweLook_waiting hp hr]
    exact ⟨rfl, rfl⟩
  · rw [exec_wake_running hp, exec_pollTimerExpiry_running hp, Ml.oweLook_busy hr]
    exact ⟨rfl, rfl⟩

/-! ### Rows of register writes -/

section
variable {s t : State} {o : Nat} {w : Bool} {v : Wide}

theorem exec_registerWrite (ht : s.registerWrite o w v = t) (hq : t.notices = []) :
    exec (.registerWrite o w v) s = .next t.granted := by
  show Host.Outcome.next (s.registerWrite o w v).settle.granted = _
  rw [ht, State.settle_quiet hq]

/-! ### RUN writes raise no notice -/

theorem State.enterStarting_quiet (hq : s.notices = []) : s.enterStarting.notices = [] := by
  unfold State.enterStarting
  simp only
  split
  · rfl
  · exact hq

theorem State.runOne_quiet (hq : s.notices = []) : s.runOne.notices = [] := by
  unfold State.runOne
  split
  · exact hq
  · simp only
    split
    · exact State.enterStarting_quiet hq
    · exact hq

theorem State.endAbandoned_quiet (s : State) : s.endAbandoned.notices = [] := by
  unfold State.endAbandoned
  simp only
  split
  · exact State.enterStarting_quiet rfl
  · rfl

theorem State.runZero_quiet (hq : s.notices = []) : s.runZero.notices = [] := by
  unfold State.runZero
  split
  · exact hq
  · simp only
    split
    · exact hq
    · split
      · exact hq
      · exact State.endAbandoned_quiet _
    · exact hq
    · exact hq

/-! ### ROOT and CONTROL -/

/-- `s` with another ROOT. -/
def State.withRoot (s : State) (root : Wide) : State := { s with ml := { s.ml with root := root } }

theorem State.registerRead_low (s : State) : s.registerRead 0x00 = s.ml.root.extractLsb' 0 32 :=
  BitVec.setWidth_eq_extractLsb' (by decide)

theorem State.registerRead_high (s : State) : s.registerRead 0x04 = s.ml.root.extractLsb' 32 32 := rfl

/-- The low half of ROOT written: the high half is kept (10, R179). -/
theorem exec_registerWrite_low (hq : s.notices = []) : exec (.registerWrite 0x00 false v) s =
    .next (s.withRoot (s.ml.root.extractLsb' 32 32 ++ v.setWidth 32)).granted :=
  exec_registerWrite rfl hq

/-- The high half of ROOT written: the low half is kept (10, R179). -/
theorem exec_registerWrite_high (hq : s.notices = []) : exec (.registerWrite 0x04 false v) s =
    .next (s.withRoot (v.setWidth 32 ++ s.ml.root.extractLsb' 0 32)).granted :=
  exec_registerWrite rfl hq

theorem State.registerRead_low_append (s : State) (hi lo : Word) : (s.withRoot (hi ++ lo)).registerRead 0x00 = lo :=
  BitVec.setWidth_append_eq_right (a := hi) (b := lo)

theorem State.registerRead_high_append (s : State) (hi lo : Word) : (s.withRoot (hi ++ lo)).registerRead 0x04 = hi :=
  BitVec.extractLsb'_append_eq_left

/-- A write of CONTROL looks at RESET first, then at RUN (10, R179). -/
theorem State.writeControl_eq (s : State) (v : Wide) : s.writeControl (v.setWidth 32) =
    if v.getLsbD 1 then s.softReset else if v.getLsbD 0 then s.runOne else s.runZero := by
  simp [State.writeControl]

/-- A write of CONTROL is the row of the soft reset or of the RUN write it makes (10, R179, R181). -/
theorem exec_registerWrite_control (hq : s.notices = []) : exec (.registerWrite 0x08 false v) s =
    if v.getLsbD 1 then exec .softReset s
    else if v.getLsbD 0 then exec .runWritten1 s else exec .runWritten0 s := by
  have written := s.writeControl_eq v
  split
  · rename_i hv
    exact exec_registerWrite (written.trans (if_pos hv)) rfl
  · rename_i hv
    rw [if_neg hv] at written
    split
    · rename_i h0
      exact exec_registerWrite (written.trans (if_pos h0)) (State.runOne_quiet hq)
    · rename_i h0
      exact exec_registerWrite (written.trans (if_neg h0)) (State.runZero_quiet hq)

theorem exec_registerWrite_wake (hq : s.notices = []) : exec (.registerWrite 0x0C false v) s = exec .wake s := by
  have quiet : s.wake.notices = [] := by
    unfold State.wake
    split <;> exact hq
  exact exec_registerWrite rfl quiet

/-! ### The interrupt line -/

/-- The line is asserted where CAUSE and MASK have a bit in common (10, R180). -/
theorem Ml.interruptLine_iff (m : Ml) :
    m.interruptLine = true ↔ ∃ i, m.cause.getLsbD i = true ∧ m.mask.getLsbD i = true := by
  constructor
  · intro h
    by_contra none
    refine bne_iff_ne.1 h (BitVec.eq_of_getLsbD_eq fun i _ => ?_)
    simpa using fun hc hm => none ⟨i, hc, hm⟩
  · rintro ⟨i, hc, hm⟩
    refine bne_iff_ne.2 fun zero => ?_
    have bit := congrArg (·.getLsbD i) zero
    simp [hc, hm] at bit

end

/-- Settles O4: each offset's write is its row, and the halves of ROOT are the halves of one word. -/
theorem registerWindowWrites : Obligations.RegisterWindowWrites := by
  refine ⟨fun s v hq => ⟨exec_registerWrite rfl hq, ⟨_, exec_registerWrite_low hq, rfl, ?_, ?_⟩,
      ⟨_, exec_registerWrite_high hq, rfl, ?_, ?_⟩⟩,
    fun s => ⟨rfl, s.registerRead_low, s.registerRead_high⟩,
    fun s v hq => ⟨exec_registerWrite_control hq, exec_registerWrite_wake hq, exec_registerWrite rfl hq,
      exec_registerWrite rfl hq⟩,
    fun s v => ⟨rfl, rfl, rfl, s.ml.interruptLine_iff⟩⟩
  · exact s.registerRead_low_append _ _
  · exact s.registerRead_high_append _ _
  · exact s.registerRead_high_append _ _
  · exact (s.registerRead_low_append _ _).trans s.registerRead_low.symm

end Sys2Proof.Machine
end

section
/-! PROOFS. RUN written 1 and the root block: a start asks for its own reads, or is a start fault (10, R181, R182,
R187). -/

namespace Sys2Proof.Machine

section
variable {s : State}

/-! ### A start's own reads -/

/-- A start that waits for its read with a slot free issues it at once, and then no grant is due (10, R182, R187). -/
theorem State.granted_startRead {u : ReadUse} {a n : Nat} (hp : s.ml.part = .starting) (ha : s.ml.abandoned = false)
    (hph : s.ml.phase ≠ .idle) (hs : s.ml.slots.length < 8) (ho : ∀ o ∈ s.ml.slots, isOwnRead o.use = false)
    (hq : s.notices = []) (hi : s.issueOwn = s.withMl (s.ml.issue u a n endLink)) (hu : isOwnRead u = true) :
    s.granted = s.withMl (s.ml.issue u a n endLink) := by
  have waits : s.ownWaits = true := by simpa [State.ownWaits, hp, ha, hph] using ho
  have due : s.grantDue = some .own := by simp [State.grantDue, State.nextUser, Config.readCapacity, hs, waits]
  have served : (s.withMl (s.ml.issue u a n endLink)).grantDue = none :=
    State.grantDue_starting hp (by simp [State.withMl, Ml.issue, hu])
  rw [State.granted_of_some due, State.serveUser, hi, State.settle_quiet (by exact hq), State.grantN, served]

theorem State.issueOwn_root {root : Nat} (hp : s.ml.part = .starting) (hr : s.ml.phase = .root root) :
    s.issueOwn = s.withMl (s.ml.issue .root root 128 endLink) := by
  simp only [State.issueOwn, hp, hr]
  rfl

theorem State.issueOwn_table {c : Setup} (hp : s.ml.part = .starting) (hr : s.ml.phase = .table)
    (hc : s.ml.setup = some c) :
    s.issueOwn = s.withMl (s.ml.issue .startTable c.tableAddr (16 * c.count) endLink) := by
  simp only [State.issueOwn, hp, hr, hc]
  rfl

/-- A start that is abandoned asks for no read (10, R181). -/
theorem State.grantDue_abandoned (hp : s.ml.part = .starting) (ha : s.ml.abandoned = true) : s.grantDue = none := by
  simp [State.grantDue, State.nextUser, State.ownWaits, State.running, hp, ha]

/-! ### RUN written 1 -/

theorem exec_runWritten1 : exec .runWritten1 s = .next s.runOne.granted := rfl

/-- `s` with RUN written 1. -/
def State.runSet (s : State) : State := { s with ml := { s.ml with run := true } }

/-- `s` with RUN 1 and its root block asked for (10, R182). -/
def State.asksRoot (s : State) : State :=
  { s with ml := { s.ml with
      run := true, part := .starting, abandoned := false, phase := .root s.ml.root.toNat } }

/-- A write that leaves RUN as it is does nothing (10, R181). -/
theorem State.runOne_same (h : s.ml.run = true) : s.runOne = s := if_pos h

theorem State.runOne_stopped (h : s.ml.run = false) (hp : s.ml.part = .stopped) :
    s.runOne = s.runSet.enterStarting := by
  simp [State.runOne, h, hp, State.runSet]

/-- Where the part is not STOPPED the RUN bit is kept for later (10, R181). -/
theorem State.runOne_stored (h : s.ml.run = false) (hp : s.ml.part ≠ .stopped) : s.runOne = s.runSet := by
  simp [State.runOne, h, hp, State.runSet]

/-- A ROOT of 0 or off a multiple of 64 is a start fault (10, R182). -/
theorem State.enterStarting_faults (h : s.ml.root.toNat = 0 ∨ s.ml.root.toNat % 64 ≠ 0) :
    s.enterStarting = s.startFault := if_pos h

theorem State.runOne_reads (h : s.ml.run = false) (hp : s.ml.part = .stopped) (h0 : s.ml.root.toNat ≠ 0)
    (h64 : s.ml.root.toNat % 64 = 0) : s.runOne = s.asksRoot :=
  (State.runOne_stopped h hp).trans (State.enterStarting_reads (s := s.runSet) h0 h64)

end

/-- Settles O6: the state of the part decides between the start and the stored bit, and ROOT whether the start
faults. -/
theorem runOneStarts : Obligations.RunOneStarts := by
  intro s hq
  refine ⟨fun hr => ?_, fun hr hp h0 h64 => ⟨fun hs ho => ?_, fun full => ?_⟩, fun hr hp bad => ?_, fun hr hp => ?_⟩
  · rw [exec_runWritten1, State.runOne_same hr]
  · rw [exec_runWritten1, State.runOne_reads hr hp h0 h64]
    exact congrArg Host.Outcome.next (State.granted_startRead (s := s.asksRoot) rfl rfl StartPhase.noConfusion hs ho hq
      (State.issueOwn_root rfl rfl) rfl)
  · rw [exec_runWritten1, State.runOne_reads hr hp h0 h64,
      State.granted_of_none (State.grantDue_full (s := s.asksRoot) full)]
    rfl
  · rw [exec_runWritten1, State.runOne_stopped hr hp, State.enterStarting_faults (s := s.runSet) bad,
      State.startFault_granted]
    rfl
  · have idle : s.runSet.grantDue = none := by
      rcases hp with hp | ⟨hp, ha⟩
      · exact State.grantDue_still (.inr hp)
      · exact State.grantDue_abandoned hp ha
    have notStopped : s.ml.part ≠ .stopped := by rcases hp with hp | ⟨hp, _⟩ <;> simp [hp]
    rw [exec_runWritten1, State.runOne_stored hr notStopped, State.granted_of_none idle]
    rfl

/-! ### The root block -/

/-- What the root block's own fields must hold (10, R182). -/
theorem rootBlockOk_iff (b : List Byte) : rootBlockOk b = true ↔
    (fieldAt b 0 4 = 48000 ∨ fieldAt b 0 4 = 96000) ∧ fieldAt b 4 1 ≤ 1 ∧ fieldAt b 16 8 % 16 = 0 ∧
      1 ≤ fieldAt b 24 1 ∧ fieldAt b 24 1 ≤ 16 := by
  have fields : rootBlockOk b = true ↔ ((setupAt b).rate = 48000 ∨ (setupAt b).rate = 96000) ∧ fieldAt b 4 1 ≤ 1 ∧
      (setupAt b).tableAddr % 16 = 0 ∧ 1 ≤ (setupAt b).count ∧ (setupAt b).count ≤ 16 := by
    simp [rootBlockOk, and_assoc]
  exact fields

section
variable {s : State} {addr len : Nat} {link : Link} {b : List Byte}

/-- `s` with a root block kept and its window table asked for, no read outstanding (10, R182). -/
def State.asksTable (s : State) (c : Setup) : State :=
  { s with ml := { s.ml with slots := [], setup := some c, phase := .table } }

/-- The one read outstanding is the start's root block, which is judged by its own fields (10, R182). -/
theorem State.rootReturn_judged (hs : s.ml.slots = [⟨.root, addr, len, link⟩]) (ha : s.ml.abandoned = false) :
    s.rootReturn (.data b) =
      if rootBlockOk b then s.asksTable (setupAt b)
      else s.readBack.startFault := by
  have out : s.ml.isOut .root = true := Ml.isOut_first (before := []) hs
  have freed : s.ml.freeSlot .root = { s.ml with slots := [] } :=
    Ml.freeSlot_first (before := []) hs (List.forall_mem_nil _)
  rw [State.rootReturn, if_neg (by simp [out]), if_neg (ne_true_of_eq_false ha), freed]
  rfl

/-- The window table is read next, at once (10, R182, R187). -/
theorem State.asksTable_granted (hp : s.ml.part = .starting) (ha : s.ml.abandoned = false) (hq : s.notices = [])
    (c : Setup) : (s.asksTable c).granted =
      (s.asksTable c).withMl ((s.asksTable c).ml.issue .startTable c.tableAddr (16 * c.count) endLink) :=
  State.granted_startRead (s := s.asksTable c) hp ha StartPhase.noConfusion (Nat.zero_lt_succ 7)
    (List.forall_mem_nil _) hq (State.issueOwn_table hp rfl rfl) rfl

end

/-- Settles O8: the fields decide between the window table's read and the start fault. -/
theorem rootBlockIsJudged : Obligations.RootBlockIsJudged := by
  intro s addr link b hp hq hs ha
  have judged := State.rootReturn_judged (b := b) hs ha
  refine ⟨fun rate ext table c1 c16 => ⟨setupAt b, ?_, rfl, ?_, ?_, rfl, rfl, rfl, rfl, rfl, rfl, rfl, rfl⟩,
    fun bad => ?_⟩
  · rw [exec_rootReturn, judged, if_pos ((rootBlockOk_iff b).2 ⟨rate, ext, table, c1, c16⟩),
      State.asksTable_granted hp ha hq]
    rfl
  · exact beq_eq_decide _ _
  · exact BitVec.toNat_ofNat _ _
  · have refused : ¬ rootBlockOk b = true := fun ok => by
      obtain ⟨rate, ext, table, c1, c16⟩ := (rootBlockOk_iff b).1 ok
      omega
    rw [exec_rootReturn, judged, if_neg refused, State.startFault_granted]
    rfl

end Sys2Proof.Machine
end

section
/-! PROOFS. STOPPING_END: the last status page, and the report of one that may not be written (10, R185, R188; 11, R196,
R197, R199). -/

namespace Sys2Proof.Machine

/-! ### The report writer, by what it knows of the next link -/

section
variable {m : Ml} {h a n : Link} {q : Report}

/-- Without a next link to write to, what waits goes on waiting, and the head slot's link is asked for (11, R196). -/
theorem Ml.serve_linkless (hq : m.queue ≠ []) (hn : m.nextLink = .unknown ∨ m.nextLink = .endOfList) (fuel : Nat) :
    Ml.serve (fuel + 1) m = { m with headWanted := m.headWanted || !m.headReadOut } := by
  obtain ⟨x, xs, hx⟩ := List.exists_cons_of_ne_nil hq
  have waits : Ml.serve (fuel + 1) m = if m.headReadOut then m else { m with headWanted := true } := by
    rcases hn with hn | hn <;> simp only [Ml.serve, hx, hn]
  rw [waits]
  cases m.headReadOut <;> simp

/-- With a place in the queue and no next link to write to, a report waits (11, R196). -/
theorem Ml.enqueue_linkless (hq : m.queue.length < 64) (hn : m.nextLink = .unknown ∨ m.nextLink = .endOfList) :
    m.enqueue q = { m with queue := m.queue ++ [q], headWanted := m.headWanted || !m.headReadOut } := by
  have room : ¬ m.queue.length ≥ Config.reportCapacity := Nat.not_le.2 hq
  rw [Ml.enqueue, if_neg room]
  exact Ml.serve_linkless (m := { m with queue := m.queue ++ [q] }) (by simp) hn _

/-- The CAUSE bits after a report of class `cls` is written: its REPORT bit if its class is enabled (11, R196). -/
def Ml.reported (m : Ml) (cls : Nat) : Word :=
  if m.enables.getLsbD cls then m.cause ||| BitVec.twoPow 32 cls else m.cause

/-- A report whose two writes are allowed takes the head slot, with its REPORT bit (11, R196, R197). -/
theorem Ml.takeSlot_written (hh : m.freeHead = some h) (ha : m.anchor = some a) (h1 : m.allows h 32 true = true)
    (h2 : m.allows a 8 true = true) : m.takeSlot n q = { m with
      writes := m.writes ++ [⟨reportRuns (m.address h) q⟩, ⟨[(m.address a, linkBytes h)]⟩]
      anchor := some h, freeHead := some n, nextLink := .unknown, headWanted := true
      cause := m.reported q.cls } := by
  simp only [Ml.takeSlot, hh, ha, Option.getD_some, h1, h2, Bool.not_true, Bool.false_eq_true, if_false,
    Ml.write, List.append_assoc]
  unfold Ml.reported
  split
  · rename_i he
    rw [if_pos (by exact he)]
    rfl
  · rename_i he
    rw [if_neg (by exact he)]
    rfl

end

/-! ### The end of STOPPING -/

section
variable {s t : State} {c : Setup}

theorem State.stopReady_iff : s.stopReady = true ↔
    s.ml.part = .stopping ∧ s.ml.slots = [] ∧ s.mx.closingDone = true := by
  simp [State.stopReady, and_assoc]

/-- At the end of STOPPING with RUN 0 the last page is written and the part is STOPPED (10, R188). -/
theorem exec_stoppingEnd_ready (hs : s.stopReady = true) (ht : s.writeStatus = t) (hr : t.ml.run = false) :
    exec .stoppingEnd s = .next (t.resetBlocks []) := by
  have ends : s.endStopping = t.resetBlocks [] := by
    rw [State.endStopping, ht]
    exact if_neg (ne_true_of_eq_false hr)
  show Host.Outcome.next (if s.stopReady then s.endStopping else s).granted = _
  rw [if_pos hs, ends, State.resetBlocks_granted]

/-- Before its end STOPPING goes on (10, R188). -/
theorem exec_stoppingEnd_early (hp : s.ml.part = .stopping) (hs : ¬ s.stopReady = true) :
    exec .stoppingEnd s = .next s := by
  show Host.Outcome.next (if s.stopReady then s.endStopping else s).granted = _
  rw [if_neg hs, State.granted_of_none (State.grantDue_still (.inr hp))]

/-- WINDOW_FAULT of a last page (11, R197). -/
def State.statusFaultReport (s : State) (c : Setup) : Report :=
  ⟨clsSystem, repWindowFault, w32 (blockCode .status), w32 c.status.win, w32 c.status.off, s.ck.now⟩

/-- A page refused becomes what the report of its fault comes to (11, R199). -/
theorem State.writeStatus_faulted {m : Ml} (hc : s.ml.setup = some c) (ha : s.ml.allows c.status 4096 true = false)
    (hm : (s.ml.recordFault c.status .status).enqueue (s.statusFaultReport c) = m) :
    s.writeStatus = (s.withMl m).restartPeaks := by
  subst hm
  exact State.writeStatus_refused hc ha

/-- The report of a refused last page takes the head slot where the next link is known and nothing waits (11, R196). -/
theorem State.statusFault_known {n h a : Link} (hq : s.ml.queue = []) (hn : s.ml.nextLink = .known n)
    (hh : s.ml.freeHead = some h) (ha : s.ml.anchor = some a) (h1 : s.ml.allows h 32 true = true)
    (h2 : s.ml.allows a 8 true = true) :
    (s.ml.recordFault c.status .status).enqueue (s.statusFaultReport c) =
      { s.ml.recordFault c.status .status with
        writes := s.ml.writes ++ [⟨reportRuns (s.ml.address h) (s.statusFaultReport c)⟩,
          ⟨[(s.ml.address a, linkBytes h)]⟩]
        anchor := some h, freeHead := some n, nextLink := .unknown, headWanted := true
        cause := (s.ml.recordFault c.status .status).reported clsSystem } := by
  have written := Ml.takeSlot_written (m := s.ml.recordFault c.status .status) (n := n)
    (q := s.statusFaultReport c) hh ha h1 h2
  rw [Ml.enqueue_known (m := s.ml.recordFault c.status .status) hq hn, written]
  exact Ml.serve_empty (by exact hq) 64

/-- The CAUSE bits after a window fault whose report is written: MEMORY_FAULT, and the REPORT bit of class SYSTEM where
the root block enables it (10, R180, R185). -/
theorem Ml.recordFault_reported {m : Ml} (hc : m.setup = some c) (l : Link) (b : Block) :
    (m.recordFault l b).reported clsSystem =
      m.cause ||| 0x40#32 ||| (if c.enables.getLsbD clsSystem then 0x8#32 else 0#32) := by
  have enables : (m.recordFault l b).enables = c.enables := by simp only [Ml.enables, Ml.recordFault_setup, hc]
  rw [Ml.reported, enables]
  split
  · rfl
  · exact (BitVec.or_zero).symm

end

/-- Settles O10: the check of the last page decides between its three writes and the fault, whose report is written
where it can be and forgotten otherwise. -/
theorem stoppingEndsAtReset : Obligations.StoppingEndsAtReset := by
  intro s c hp hc
  have ready (hs : s.ml.slots = []) (hd : s.mx.closingDone = true) : s.stopReady = true :=
    State.stopReady_iff.2 ⟨hp, hs, hd⟩
  refine ⟨fun hs hd hr allowed => ?_, fun hs hd hr refused hq hn => ?_,
    fun n h a hs hd hr refused hq hn hh ha h1 h2 => ?_, fun early => exec_stoppingEnd_early hp fun now => ?_⟩
  · rw [exec_stoppingEnd_ready (ready hs hd) (State.writeStatus_allowed hc allowed) hr]
    simp only [State.resetBlocks, State.restartPeaks, hr]
    rfl
  · have waits := Ml.enqueue_linkless (m := s.ml.recordFault c.status .status) (q := s.statusFaultReport c) hq hn
    rw [exec_stoppingEnd_ready (ready hs hd) (State.writeStatus_faulted hc refused waits) hr]
    simp only [State.resetBlocks, State.restartPeaks, State.withMl, Ml.recordFault_run, hr]
    rfl
  · have written := State.statusFault_known (c := c) hq hn hh ha h1 h2
    rw [Ml.recordFault_reported hc] at written
    rw [exec_stoppingEnd_ready (ready hs hd) (State.writeStatus_faulted hc refused written) hr]
    simp only [State.resetBlocks, State.restartPeaks, State.withMl, Ml.recordFault_run, hr]
    rfl
  · obtain ⟨_, hs, hd⟩ := State.stopReady_iff.1 now
    rcases early with h | h
    · exact h hs
    · exact Bool.false_ne_true (h.symm.trans hd)

end Sys2Proof.Machine
end

section
/-! PROOFS. The reads of the chain reader and of the report writer return (10, R180, R185; 11, R191, R196–R198). -/

namespace Sys2Proof.Machine

/-! ### The link read of a look -/

section
variable {s : State} {before after : List Outstanding} {l link : Link} {addr len : Nat} {b : List Byte}

/-- `s` with other reads outstanding. -/
def State.withSlots (s : State) (slots : List Outstanding) : State := { s with ml := { s.ml with slots := slots } }

theorem exec_chainLinkReturn (d : ReadData) :
    exec (.chainLinkReadComplete d) s = .next (s.chainLinkReturn d).granted := rfl

section
variable (hp : s.ml.part = .running) (hs : s.ml.slots = before ++ ⟨.chainLink, addr, len, link⟩ :: after)
  (hb : ∀ o ∈ before, o.use ≠ .chainLink) (hr : s.ml.reader = .looking)
include hp hs hb hr

/-- The link of a look is judged: END ends the look, another link is read next (11, R191). -/
theorem State.chainLinkReturn_data : s.chainLinkReturn (.data b) =
    if isEnd (linkAt b 0) then { s with ml := (s.withSlots (before ++ after)).ml.toWaiting }
    else { s with ml := { (s.withSlots (before ++ after)).ml with reader := .reading (linkAt b 0) } } := by
  have looking : (s.running && s.ml.reader == .looking) = true := by simp [State.running, hp, hr]
  rw [State.chainLinkReturn, if_neg (by simp [Ml.isOut_first hs]), if_neg (by simp [looking]), Ml.freeSlot_first hs hb]
  rfl

/-- A bus error on it is a window fault at the reader's position, and ends the look (10, R185; 11, R191). -/
theorem State.chainLinkReturn_busError : s.chainLinkReturn .busError =
    let t := (s.withSlots (before ++ after)).windowFault (s.ml.position.getD endLink) .chain
    { t with ml := t.ml.toWaiting } := by
  have looking : (s.running && s.ml.reader == .looking) = true := by simp [State.running, hp, hr]
  rw [State.chainLinkReturn, if_neg (by simp [Ml.isOut_first hs]), if_neg (by simp [looking]), Ml.freeSlot_first hs hb]
  rfl

end

/-! ### The record read of a look -/

/-- The row of a record read that brings a record not POSTED (11, R191). -/
theorem State.chainRecordReturn_unposted (hp : s.ml.part = .running) (hi : s.ml.inflight.length < 8)
    (hs : s.ml.slots = [⟨.chainRecord l, addr, len, link⟩]) (hr : s.ml.reader = .reading l)
    (unposted : fieldAt b 8 1 ≠ 1) :
    s.chainRecordReturn (.data b) = (s.readBack.setCause causeChainFault).readerBack := by
  have freed : s.ml.freeSlot (.chainRecord l) = s.readBack.ml :=
    Ml.freeSlot_first (before := []) hs (List.forall_mem_nil _)
  simp [State.chainRecordReturn, hs, hr, State.takes_of hp hi, unposted, freed, State.readBack]

end

/-- Settles O24: what is read decides where the reader goes; a fault sends it to WAITING. -/
theorem chainReadsAreJudged : Obligations.ChainReadsAreJudged := by
  refine ⟨fun s before after addr link hp hs hb hr hl => ⟨fun b ended => ?_, fun b next => ?_, fun l reports at_ => ?_⟩,
    fun s l link addr b hp hi hs hr hl unposted => ?_⟩
  · rw [exec_chainLinkReturn, State.chainLinkReturn_data hp hs hb hr, if_pos ended,
      Ml.toWaiting_quiet (m := (s.withSlots (before ++ after)).ml) hl]
    rfl
  · rw [exec_chainLinkReturn, State.chainLinkReturn_data hp hs hb hr, if_neg (ne_true_of_eq_false next)]
    rfl
  · have returned : (s.withSlots (before ++ after)).Reports 1 := ⟨reports.running, reports.room, reports.unknown⟩
    have place : s.ml.position.getD endLink = l := congrArg (Option.getD · endLink) at_
    rw [exec_chainLinkReturn, State.chainLinkReturn_busError hp hs hb hr, place, State.windowFault_faulted returned]
    simp only [Ml.toWaiting_quiet (m := ((s.withSlots (before ++ after)).faulted l .chain).ml) hl]
    rfl
  · show Host.Outcome.next (s.chainRecordReturn (.data b)).granted = _
    rw [State.chainRecordReturn_unposted hp hi hs hr unposted, State.readerBack,
      Ml.toWaiting_quiet (m := (s.readBack.setCause causeChainFault).ml) hl]
    rfl

/-! ### The link read of the report writer -/

section
variable {m : Ml} {addr len : Nat} {link n : Link} {b : List Byte} {q : Report}

/-- `m` with its only read returned, and what it says of the next link (11, R196). -/
def Ml.learns (m : Ml) (n : NextLink) : Ml := { m with slots := [], nextLink := n }

/-- While RUNNING, END loses the queue and a link serves it (11, R196). -/
theorem Ml.headReturn_data (hp : m.part = .running) (hs : m.slots = [⟨.reportHead, addr, len, link⟩]) :
    m.headReturn (.data b) = if isEnd (linkAt b 0) then (m.learns .endOfList).loseQueue
      else Ml.serve 65 (m.learns (.known (linkAt b 0))) := by
  have out : m.headReadOut = true := Ml.isOut_first (before := []) hs
  have running : ¬ (m.part != .running) = true := by simp [hp]
  have freed : m.freeSlot .reportHead = { m with slots := [] } :=
    Ml.freeSlot_first (before := []) hs (List.forall_mem_nil _)
  rw [Ml.headReturn, if_neg (by simp [out]), if_neg running, freed]
  rfl

/-- The one report that waits takes the head slot once the next link is known (11, R196). -/
theorem Ml.serve_one (hq : m.queue = [q]) (hn : m.nextLink = .known n) (fuel : Nat) :
    Ml.serve (fuel + 1) m = Ml.serve fuel (({ m with queue := [] } : Ml).takeSlot n q) := by
  simp only [Ml.serve, hq, hn]

/-- Its two writes are allowed: it is written, and nothing waits any more. -/
theorem Ml.serve_written {h a : Link} (hq : m.queue = [q]) (hn : m.nextLink = .known n) (hh : m.freeHead = some h)
    (ha : m.anchor = some a) (h1 : m.allows h 32 true = true) (h2 : m.allows a 8 true = true) (fuel : Nat) :
    Ml.serve (fuel + 1) m = { m with
      queue := [], anchor := some h, freeHead := some n, nextLink := .unknown, headWanted := true
      cause := m.reported q.cls
      writes := m.writes ++ [⟨reportRuns (m.address h) q⟩, ⟨[(m.address a, linkBytes h)]⟩] } := by
  rw [Ml.serve_one hq hn, Ml.takeSlot_written (m := { m with queue := [] }) hh ha h1 h2]
  exact Ml.serve_empty (by rfl) fuel

end

/-- Settles O26: END loses the one report, and a link lets it be written. -/
theorem headLinkServesReports : Obligations.HeadLinkServesReports := by
  intro s addr link b r hp hs hq _
  have row : exec (.reportLinkReadComplete (.data b)) s = .next (s.withMl (s.ml.headReturn (.data b))).granted := rfl
  rw [row, Ml.headReturn_data hp hs]
  refine ⟨fun ended counts => ?_, fun h a c next hh ha hc h1 h2 => ?_⟩
  · rw [if_pos ended, Ml.loseQueue_one (m := s.ml.learns .endOfList) hq,
      Ml.lose_counts (m := s.ml.learns .endOfList) counts]
    rfl
  · have enables : s.ml.enables = c.enables := by simp only [Ml.enables, hc]
    rw [if_neg (ne_true_of_eq_false next), ← enables,
      Ml.serve_written (m := s.ml.learns (.known (linkAt b 0))) hq rfl hh ha h1 h2]
    rfl

end Sys2Proof.Machine
end

section
/-! PROOFS. Windows: their validity, the check of an access, and the table read of LOAD_WINDOWS (10, R184–R186). -/

namespace Sys2Proof.Machine

/-! ### Validity and access -/

/-- What makes a window of a table valid (10, R184). -/
theorem windowAt_valid_iff (b : List Byte) (n w : Nat) : (windowAt b n w).valid = true ↔
    w < n ∧ fieldAt b (16 * w + 13) 1 = 1 ∧ fieldAt b (16 * w) 8 % 64 = 0 ∧
      fieldAt b (16 * w) 8 + fieldAt b (16 * w + 8) 4 < 2 ^ 64 := by
  have whole : fieldAt b (16 * w) 8 + fieldAt b (16 * w + 8) 4 ≤ 2 ^ 64 - 1 ↔
      fieldAt b (16 * w) 8 + fieldAt b (16 * w + 8) 4 < 2 ^ 64 := by omega
  rw [← whole]
  simp only [windowAt, Bool.and_eq_true, decide_eq_true_eq, beq_iff_eq, and_assoc]

/-- An access passes where its span ends within a valid window that gives the right (10, R185). -/
theorem Ml.allows_iff (m : Ml) (l : Link) {len : Nat} (write : Bool) (h : 1 ≤ len) : m.allows l len write = true ↔
    l.win < 16 ∧ (m.window l.win).valid = true ∧ l.off + len ≤ (m.window l.win).limit + 1 ∧
      (if write then (m.window l.win).wr else (m.window l.win).rd) = true := by
  have span : l.off + len - 1 ≤ (m.window l.win).limit ↔ l.off + len ≤ (m.window l.win).limit + 1 := by omega
  rw [← span]
  simp only [Ml.allows, Bool.and_eq_true, decide_eq_true_eq, and_assoc]

/-! ### The table read of LOAD_WINDOWS -/

/-- A finish whose two spans may be written makes its two writes (11, R189). -/
theorem Ml.finishRecord_written {m : Ml} {r : Link} (h9 : m.allows (linkPlus r 9) 15 true = true)
    (h8 : m.allows (linkPlus r 8) 1 true = true) (now : Nat) (res : Result) (why : Reason) (k : Bool) :
    m.finishRecord now r res why k = { m with
      writes := m.writes ++ finishWrites (m.address r) now res why k } := by
  simp [Ml.finishRecord, h9, h8, finishWrites, Ml.write]

/-- The one command in flight finishes, and the reader is not BLOCKED (11, R189, R192). -/
theorem Ml.finishFirst_only {m : Ml} {r : Link} {kind : Nat} {j : Job} {k : Bool} (hi : m.inflight = [⟨r, kind, j, k⟩])
    (hb : m.reader ≠ .blocked) (h9 : m.allows (linkPlus r 9) 15 true = true)
    (h8 : m.allows (linkPlus r 8) 1 true = true) (now : Nat) (res : Result) :
    m.finishFirst now j res = { m with
      inflight := [], writes := m.writes ++ finishWrites (m.address r) now res .none k } := by
  have first : m.inflight.find? (fun e => e.job == j) = some ⟨r, kind, j, k⟩ := by simp [hi]
  have others : m.inflight.eraseP (fun e => e.job == j) = [] := by simp [hi]
  have done := Ml.finishRecord_written (m := { m with inflight := [] }) h9 h8 now res .none k
  have goesOn : ¬ (m.reader == .blocked &&
      decide (([] : List InFlight).length < Config.inflightCapacity)) = true := by simp [hb]
  simp only [Ml.finishFirst, first, others, done]
  exact if_neg goesOn

section
variable {s : State} {r link : Link} {addr len n : Nat} {b : List Byte} (hp : s.ml.part = .running)
  (hs : s.ml.slots = [⟨.loadWindows r n, addr, len, link⟩])
include hp hs

/-- The table replaces the whole cache, then the record finishes under it (10, R186). -/
theorem State.loadWindowsReturn_data : s.loadWindowsReturn (.data b) = s.withMl
    (({ s.readBack.ml with windows := windowSet b n } : Ml).finishFirst s.ck.now .loadWindows .ok) := by
  have freed : s.ml.freeSlot (.loadWindows r n) = s.readBack.ml :=
    Ml.freeSlot_first (before := []) hs (List.forall_mem_nil _)
  simp [State.loadWindowsReturn, hs, State.running, hp, freed, State.readBack, State.withMl]

/-- A bus error keeps the cache, is a window fault without a window, and fails the record (10, R185, R186). -/
theorem State.loadWindowsReturn_busError : s.loadWindowsReturn .busError =
    s.withMl ((s.readBack.windowFault endLink .windows).ml.finishFirst s.ck.now .loadWindows .window) := by
  have freed : s.ml.freeSlot (.loadWindows r n) = s.readBack.ml :=
    Ml.freeSlot_first (before := []) hs (List.forall_mem_nil _)
  simp [State.loadWindowsReturn, hs, State.running, hp, freed, State.readBack, State.withMl, State.windowFault]

end

/-- Settles O27: the read either replaces the cache or is a fault, and the record finishes after it. -/
theorem windowsAreJudgedAndReplaced : Obligations.WindowsAreJudgedAndReplaced := by
  refine ⟨fun s r link addr n clamped hp hs hi hb => ⟨?_, fun reports h9 h8 => ?_⟩, windowAt_valid_iff,
    fun m l len write h => m.allows_iff l write h⟩
  · intro b m h9 h8
    show Host.Outcome.next (s.loadWindowsReturn (.data b)).granted = _
    rw [State.loadWindowsReturn_data hp hs,
      Ml.finishFirst_only (m := { s.readBack.ml with windows := windowSet b n }) hi hb h9 h8]
    rfl
  · have returned : s.readBack.Reports 1 := ⟨reports.running, reports.room, reports.unknown⟩
    show Host.Outcome.next (s.loadWindowsReturn .busError).granted = _
    rw [State.loadWindowsReturn_busError hp hs, State.windowFault_faulted returned,
      Ml.finishFirst_only (m := (s.readBack.faulted endLink .windows).ml) hi hb h9 h8]
    rfl

end Sys2Proof.Machine
end

section
/-! PROOFS. LOAD_WINDOWS, SET_POLL, CLEAR_FLAGS and MARK (10, R186; 11, R200). -/

namespace Sys2Proof.Machine

/-! ### LOAD_WINDOWS and SET_POLL -/

section
variable {s : State} {r : Link} {addr : Wide} {n : Nat}

/-- `s` with the table read of a LOAD_WINDOWS asked for (10, R186, R187). -/
def State.asksWindows (s : State) (r : Link) (addr n : Nat) : State :=
  { s with ml := { s.ml with loads := s.ml.loads ++ [⟨r, addr, n⟩] } }

theorem cmdLoadWindows_good (h1 : 1 ≤ n) (h16 : n ≤ 16) (ha : addr.toNat % 16 = 0) :
    cmdLoadWindows r addr n s = (s.asksWindows r addr.toNat n).hold r 36 .loadWindows := by
  have inRange : ¬ (n = 0 ∨ n > 16 ∨ addr.toNat % 16 ≠ 0) := by omega
  exact if_neg inRange

theorem cmdLoadWindows_range (h : n = 0 ∨ 16 < n ∨ addr.toNat % 16 ≠ 0) :
    cmdLoadWindows r addr n s = s.finish r .range := if_pos h

/-- A poll interval is clamped where it lies outside 100–100 000 microseconds (11, R200). -/
theorem clampPoll_clamps (t : Nat) : (clampPoll t != t) = decide (t < 100 ∨ 100000 < t) := by
  rw [Bool.eq_iff_iff, bne_iff_ne, decide_eq_true_iff, clampPoll]
  omega

/-! ### CLEAR_FLAGS -/

/-- `s` with no CLAMP flag set (11, R200). -/
def State.unclamped (s : State) : State :=
  { s with mx := { s.mx with buses := s.mx.buses.map fun u => { u with clamp := false } } }

/-- `s` with no EDGE flag set (11, R200). -/
def State.edgeless (s : State) : State :=
  { s with cu := { s.cu with inputs := s.cu.inputs.map fun x => { x with edge := false } } }

theorem State.applyClearFlags_clamp : s.applyClearFlags 1 = .ok (s.unclamped, false) := rfl

theorem State.applyClearFlags_edge : s.applyClearFlags 2 = .ok (s.edgeless, false) := rfl

/-- A set of flags that names none, or one that does not exist, is out of range (11, R200). -/
theorem State.applyClearFlags_range {x : BitVec 8} (h : x = 0 ∨ 4 ≤ x.toNat) :
    s.applyClearFlags x = .error { res := .range } := by
  have unknown : ∀ y : BitVec 8, 4 ≤ y.toNat → y &&& 0xFC#8 ≠ 0 := by decide
  exact if_pos (h.imp_right (unknown x))

theorem State.unclamped_bus {b : Nat} (h : b < 25) : s.unclamped.bus b = { s.bus b with clamp := false } :=
  tget_map s.mx.buses (fun u : Bus => ({ u with clamp := false } : Bus)) Bus.reset Bus.reset h

theorem State.edgeless_input {c : Nat} (h1 : 1 ≤ c) (h2 : c ≤ 24) :
    s.edgeless.input c = { s.input c with edge := false } :=
  tget_map s.cu.inputs (fun x : Input => ({ x with edge := false } : Input)) Input.reset Input.reset (by omega)

end

/-- Settles O55: LOAD_WINDOWS stays in flight, and the other three finish at once. -/
theorem linkCommands : Obligations.LinkCommands := by
  intro s r h
  refine ⟨fun addr n h1 h16 ha => ?_, fun addr n bad => ?_, fun t => ?_, ⟨s.unclamped.outcome r .ok, ?_, ?_, rfl⟩,
    ⟨s.edgeless.outcome r .ok, ?_, ?_, rfl⟩, fun x bad => ?_, fun v reports => ?_⟩
  · exact h.exec_flies rfl (cmdLoadWindows_good h1 h16 ha) ⟨rfl, rfl, rfl, rfl⟩ h.quiet
  · exact h.exec_refused rfl (cmdLoadWindows_range bad)
  · rw [← clampPoll_clamps]
    exact h.exec_finish (t := s.withMl { s.ml with pollInterval := clampPoll t, pollStart := s.ck.now }) rfl rfl
      ⟨rfl, rfl, rfl, rfl⟩ h.quiet
  · exact h.exec_answered rfl rfl State.applyClearFlags_clamp rfl rfl
  · exact fun b hb => State.unclamped_bus hb
  · exact h.exec_answered rfl rfl State.applyClearFlags_edge rfl rfl
  · exact fun c h1 h2 => State.edgeless_input h1 h2
  · exact h.exec_outOfRange rfl rfl (State.applyClearFlags_range bad)
  · have raised : State.runCommand (.mark r v) s = (s.posted clsSystem repMark 0 0 v).finish r .ok :=
      congrArg (·.finish r .ok) (State.report_posted reports clsSystem repMark 0 0 v)
    exact h.exec_finish rfl raised ⟨rfl, rfl, rfl, rfl⟩ h.quiet

end Sys2Proof.Machine
end

section
/-! PROOFS. A chain command laid out in a record is read back as itself (11, R189, R195; log 15). -/

namespace Sys2Proof.Machine
open Sys2Proof.Laws.Layout (length_toLe)

/-! ### Reading what was laid out -/

section
variable {a z : List Byte} {i n : Nat}

theorem leNat_toLe {v : Nat} (h : v < 256 ^ n) : leNat (toLe n v) = v := by
  induction n generalizing v with
  | zero => simp_all [toLe, leNat]
  | succ n ih =>
    have rest : v / 256 < 256 ^ n := Nat.div_lt_of_lt_mul (by rwa [← Nat.pow_succ'])
    rw [toLe, leNat, ih rest, BitVec.toNat_ofNat]
    exact Nat.mod_add_div v 256

/-- A field is read back where it was laid out. -/
@[simp] theorem fieldAt_toLe {v : Nat} (h : fits n v = true) : fieldAt (toLe n v ++ z) 0 n = v := by
  rw [fieldAt, List.drop_zero, List.take_left' (length_toLe n v), leNat_toLe (of_decide_eq_true h)]

/-- A field past the first run of bytes is one of the rest. -/
@[simp] theorem fieldAt_append (h : a.length ≤ i) : fieldAt (a ++ z) i n = fieldAt z (i - a.length) n := by
  rw [fieldAt, fieldAt, List.drop_append, List.drop_eq_nil_of_le h, List.nil_append]

@[simp] theorem levelAt_append (h : a.length ≤ i) : levelAt (a ++ z) i = levelAt z (i - a.length) := by
  rw [levelAt, levelAt, fieldAt_append h]

/-- Two's complement of 16 bits loses no level (01, R1). -/
theorem signed16_unsigned16 {v : Int} (h : fitsLevel v = true) : signed16 (unsigned16 v) = v := by
  simp only [fitsLevel, Bool.and_eq_true, decide_eq_true_eq] at h
  rw [signed16, unsigned16]
  split <;> omega

theorem fits_unsigned16 (v : Int) : fits 2 (unsigned16 v) = true :=
  decide_eq_true (by rw [unsigned16]; omega)

@[simp] theorem levelAt_putLevelField {v : Int} (h : fitsLevel v = true) : levelAt (putLevelField v ++ z) 0 = v := by
  rw [levelAt, putLevelField, fieldAt_toLe (fits_unsigned16 v), signed16_unsigned16 h]

/-- A bit vector fits the bytes of its width. -/
@[simp] theorem fits_toNat {w : Nat} (v : BitVec w) (h : w ≤ 8 * n) : fits n v.toNat = true := by
  have bytes : 2 ^ w ≤ 256 ^ n := (Nat.pow_le_pow_right (by decide) h).trans (Nat.pow_mul 2 8 n).le
  exact decide_eq_true (v.isLt.trans_le bytes)

/-! ### Lengths of the compound fields -/

@[simp] theorem length_putLevelField (v : Int) : (putLevelField v).length = 2 := length_toLe 2 _

@[simp] theorem length_linkBytes (l : Link) : (linkBytes l).length = 8 := by simp [linkBytes, length_toLe]

@[simp] theorem length_putTarget (t : TargetField) : (putTarget t).length = 3 := by simp [putTarget, length_toLe]

@[simp] theorem length_putDesc (d : DescField) : (putDesc d).length = 24 := by simp [putDesc, length_toLe]

/-! ### Compound fields -/

theorem linkAt_linkBytes {l : Link} (h : l.wf = true) : linkAt (linkBytes l ++ z) 0 = l := by
  simp only [Link.wf, Bool.and_eq_true] at h
  simp [linkAt, linkBytes, length_toLe, h]

theorem targetAt_putTarget {t : TargetField} (h : t.wf = true) : targetAt (putTarget t ++ z) 0 = t := by
  simp only [TargetField.wf, Bool.and_eq_true] at h
  simp [targetAt, putTarget, length_toLe, h]

theorem descAt_append (h : a.length ≤ i) : descAt (a ++ z) i = descAt z (i - a.length) := by
  have later (k : Nat) : fieldAt (a ++ z) (i + k) = fieldAt z (i - a.length + k) := by
    funext n
    rw [fieldAt_append (h.trans (Nat.le_add_right i k)), Nat.sub_add_comm h]
  simp [descAt, later, fieldAt_append h]

theorem descAt_putDesc {d : DescField} (h : d.wf = true) : descAt (putDesc d ++ z) 0 = d := by
  simp only [DescField.wf, Bool.and_eq_true] at h
  simp [descAt, putDesc, length_toLe, h]

theorem pageAt_putPage {p : PageField} (h : p.wf = true) : pageAt (putPage p ++ z) 0 = p := by
  simp only [PageField.wf, Bool.and_eq_true] at h
  simp [pageAt, putPage, length_toLe, descAt_append, descAt_putDesc, h, -List.reduceReplicate]

/-- The voices of SET_SCHEDULE, one byte each (11, R189). -/
theorem map_fieldAt_flatMap {vs : List Nat} (h : vs.all (fits 1) = true) :
    (List.range vs.length).map (fun i => fieldAt (vs.flatMap (toLe 1) ++ z) i 1) = vs := by
  induction vs with
  | nil => rfl
  | cons v vs ih =>
    simp only [List.all_cons, Bool.and_eq_true] at h
    simpa [List.range_succ_eq_map, Function.comp_def, length_toLe, h] using ih h.2

/-! ### Fields that may be LEAVE -/

theorem testBit_leaveMask (bs : List Bool) (i : Nat) : (leaveMask bs).testBit i = bs.getD i false := by
  induction bs generalizing i with
  | nil => simp [leaveMask]
  | cons b bs ih =>
    have mask : leaveMask (b :: bs) = Nat.bit b (leaveMask bs) := by cases b <;> simp [leaveMask, Nat.bit]; omega
    cases i with
    | zero => rw [mask, Nat.testBit_bit_zero]; rfl
    | succ i => rw [mask, Nat.testBit_bit_succ, ih]; rfl

theorem leaveMask_lt (bs : List Bool) : leaveMask bs < 2 ^ bs.length := by
  induction bs with
  | nil => decide
  | cons b bs ih =>
    rw [leaveMask, List.length_cons, Nat.pow_succ]
    split <;> omega

/-- The mask at the front says which fields are LEAVE; a field laid out under any value where it is LEAVE is read
back (11, R189). -/
theorem leaveOr_leaveMask {α : Type} {bs : List Bool} {o : Option α} {d : α} (len : bs.length ≤ 16)
    (h : bs.getD i false = o.isNone) : leaveOr (toLe 2 (leaveMask bs) ++ z) i (o.getD d) = o := by
  have mask : fits 2 (leaveMask bs) = true :=
    decide_eq_true ((leaveMask_lt bs).trans_le (Nat.pow_le_pow_right (by decide) len))
  rw [leaveOr, u16, fieldAt_toLe mask, testBit_leaveMask, h]
  cases o <;> rfl

@[simp] theorem fits_getD {o : Option Nat} (h : fitsOpt n o = true) : fits n (o.getD 0) = true := by
  cases o with
  | none => exact decide_eq_true (Nat.pow_pos (by decide))
  | some v => exact h

@[simp] theorem fitsLevel_getD {o : Option Int} (h : fitsLevelOpt o = true) : fitsLevel (o.getD 0) = true := by
  cases o with
  | none => rfl
  | some v => exact h

/-! ### Commands -/

/-- The argument fields of each kind are read back, whatever follows them in the area; the cases go by the fields that
the kinds have (11, R189, R195). -/
theorem decodeCommand_encodeArgs {c : Instr} {r : Link} {k : Nat} (w : c.wf = true) (hr : recordLink c = some r)
    (e : encodeArgs c = some (k, a)) : decodeCommand r k (a ++ z) = some c := by
  cases c <;> cases hr <;> cases e <;> simp only [Instr.wf, Bool.and_eq_true] at w
  -- no argument
  case go | hold | release | stopCues | relock => rfl
  -- unsigned fields, levels and sets
  case setSource | setContrib | removeContrib | stopVoice | teardownVoice | setReserve =>
    simp [decodeCommand, decodeLow, u8, u32, u64, length_toLe, w]
  case goto | fire | talk | endPage | cancelPage =>
    simp [decodeCommand, decodeMid, u8, u16, w]
  case setRoute | setPattern | setOutput | selectClock | loadWindows | setPoll | clearFlags | mark =>
    simp [decodeCommand, decodeHigh, u8, u16, u32, u64, length_toLe, w]
  -- compound fields
  case setLevel | fade | stopFade =>
    simp [decodeCommand, decodeLow, targetAt_putTarget, u8, u32, length_toLe, w]
  case startVoice => simp [decodeCommand, decodeLow, descAt_append, descAt_putDesc, u8, u32, length_toLe, w]
  case loadBook | recallScene => simp [decodeCommand, decodeMid, linkAt_linkBytes, u8, u16, u32, length_toLe, w]
  case startPage => simp [decodeCommand, decodeMid, pageAt_putPage, w]
  case setPageButton =>
    simp only [ButtonField.wf, Bool.and_eq_true] at w
    simp [decodeCommand, decodeMid, buttonAt, u8, u32, length_toLe, w]
  -- a list
  case setSchedule =>
    obtain ⟨⟨⟨_, count⟩, len⟩, voices⟩ := w
    simp [decodeCommand, decodeLow, u8, length_toLe, count, ← eq_of_beq len, map_fieldAt_flatMap voices]
  -- fields that may be LEAVE
  case setBus => simp [decodeCommand, decodeLow, leaveOr_leaveMask, u8, length_toLe, w]
  case resume => simp [decodeCommand, decodeMid, leaveOr_leaveMask, u32, length_toLe, w]
  case setInput | setClockLimits =>
    simp [decodeCommand, decodeHigh, leaveOr_leaveMask, u8, u16, u32, length_toLe, w]
  case setFoldback =>
    simp only [FoldbackField.wf, Bool.and_eq_true] at w
    simp [decodeCommand, decodeMid, foldbackAt, leaveOr_leaveMask, u8, length_toLe, w]
  case setZone =>
    simp only [ZoneField.wf, Bool.and_eq_true] at w
    simp [decodeCommand, decodeMid, zoneAt, leaveOr_leaveMask, u8, u32, length_toLe, w]

/-- A kind takes two bytes, and its arguments fit the argument area (11, R189, R195). -/
theorem encodeArgs_fits {c : Instr} {k : Nat} (w : c.wf = true) (e : encodeArgs c = some (k, a)) :
    fits 2 k = true ∧ a.length ≤ 96 := by
  cases c
  case setSchedule r n vs =>
    cases e
    obtain ⟨-, -, room⟩ := (Laws.Layout.setSchedule r n vs w).2 _ rfl
    exact ⟨rfl, room⟩
  case startPage r p =>
    cases e
    obtain ⟨-, -, room⟩ := (Laws.Layout.startPage r p w).2 _ rfl
    exact ⟨rfl, room⟩
  all_goals cases e <;> exact ⟨rfl, Nat.le_of_ble_eq_true rfl⟩

/-! ### The record's header -/

/-- The 32 bytes in front of the argument area: link END, POSTED and the kind (11, R189). -/
def recordHead (k : Nat) : List Byte :=
  linkBytes endLink ++ toLe 1 1 ++ [0, 0, 0] ++ toLe 2 k ++ List.replicate 18 0

theorem encodeRecord_eq_some {c : Instr} {b : List Byte} (h : encodeRecord c = some b) :
    ∃ k a, encodeArgs c = some (k, a) ∧ b = recordHead k ++ (a ++ List.replicate (96 - a.length) 0) := by
  obtain ⟨⟨k, a⟩, e, rfl⟩ := Option.map_eq_some_iff.1 h
  exact ⟨k, a, e, List.append_assoc ..⟩

theorem length_recordHead (k : Nat) : (recordHead k).length = 32 := by simp [recordHead, length_toLe]

theorem recordHead_end (k : Nat) : linkAt (recordHead k ++ z) 0 = endLink := by
  simp [recordHead, linkAt_linkBytes (l := endLink) rfl]

theorem recordHead_posted (k : Nat) : fieldAt (recordHead k ++ z) 8 1 = 1 := by
  simp [recordHead, fieldAt_toLe (n := 1) (v := 1) rfl]

theorem recordHead_kind {k : Nat} (h : fits 2 k = true) : fieldAt (recordHead k ++ z) 12 2 = k := by
  have before : recordHead k ++ z =
      (linkBytes endLink ++ toLe 1 1 ++ [0, 0, 0]) ++ (toLe 2 k ++ (List.replicate 18 0 ++ z)) := by simp [recordHead]
  rw [before, fieldAt_append (by simp [length_toLe])]
  simp [length_toLe, h]

theorem recordHead_area (k : Nat) : (recordHead k ++ z).drop 32 = z := List.drop_left' (length_recordHead k)

end

/-- Settles O58: the header names the kind, and the arguments start at byte 32. -/
theorem recordRoundTrip : Obligations.RecordRoundTrip := by
  intro c r b w hr hb
  obtain ⟨k, a, e, rfl⟩ := encodeRecord_eq_some hb
  obtain ⟨kind, room⟩ := encodeArgs_fits w e
  refine ⟨?_, recordHead_posted k, ?_, ?_⟩
  · simp only [List.length_append, length_recordHead, List.length_replicate]
    omega
  · rw [recordHead_end]
    rfl
  · rw [decodeRecord, recordHead_kind kind, recordHead_area]
    exact decodeCommand_encodeArgs w hr e

end Sys2Proof.Machine
end

section
/-! PROOFS. A step is the front command on the queue's rest; an empty queue idles (log 1). -/

namespace Sys2Proof.Machine

theorem step_idle {s : State} (h : s.pending = []) : step s = .next s := by
  rw [step, h]

theorem step_front {s : State} {c : Instr} {rest : List Instr} (h : s.pending = c :: rest) :
    step s = exec c { s with pending := rest } := by
  rw [step, h]

/-- Settles O1: the queue's two cases; every row ends in a grant of the read slots, so it answers a next state. -/
theorem stepRunsFrontCommand : Obligations.StepRunsFrontCommand := by
  refine fun s => ⟨fun _ _ => step_front, step_idle, fun c => ?_⟩
  obtain ⟨u, hu⟩ := exec_granted c s
  exact ⟨u.granted, hu⟩

end Sys2Proof.Machine
end
